-- ==== Sys2Proof/Word.lean ====
section
/-! DEFINITION. The two widths of the core: 8-bit registers and bus data, 16-bit pairs, SP, PC and addresses
(00_scope.md R6). -/

namespace Sys2Proof

/-- An 8-bit value: a register, or what one bus access moves (R6). -/
abbrev Byte := BitVec 8

/-- A 16-bit value: a register pair, SP, PC, or a bus address (R6). -/
abbrev Word := BitVec 16

end Sys2Proof
end

