-- ==== Sys2Proof/Syntax.lean ====
section
/-! DEFINITION. The instructions: one constructor per row of spec/opcode_table.json (256 primary bytes, 256
CB-prefixed), the operand fields they are encoded with (30_encoding.md R103 to R107), the descriptor of a row (R120),
and the rows as families indexed by their operand fields. -/

namespace Sys2Proof

/-- The 3-bit register field r without its value 110, which names (HL) (R103). -/
inductive Reg8 where
  | b | c | d | e | h | l | a
  deriving DecidableEq, Repr

/-- The 2-bit pair field rp (R104). -/
inductive Pair where
  | bc | de | hl | sp
  deriving DecidableEq, Repr

/-- The 2-bit pair field rp2 of PUSH and POP (R105). -/
inductive StackPair where
  | bc | de | hl | af
  deriving DecidableEq, Repr

/-- The 2-bit condition field cc (R106). -/
inductive Cond where
  | nz | z | nc | c
  deriving DecidableEq, Repr

/-- The operation field y of the 8-bit ALU rows (R258). -/
inductive AluOp where
  | add | adc | sub | sbc | and | xor | or | cp
  deriving DecidableEq, Repr

/-- The operation field y of the CB rotate and shift rows (R102, R114). -/
inductive RotOp where
  | rlc | rrc | rl | rr | sla | sra | swap | srl
  deriving DecidableEq, Repr

/-- The 16-bit register names an operand can have (R33, R35, R107). -/
inductive Reg16 where
  | af | bc | de | hl | sp
  deriving DecidableEq, Repr

/-- The field value of a register (R103). -/
def Reg8.field : Reg8 → Nat
  | .b => 0 | .c => 1 | .d => 2 | .e => 3 | .h => 4 | .l => 5 | .a => 7

/-- The field value of a pair (R104). -/
def Pair.field : Pair → Nat
  | .bc => 0 | .de => 1 | .hl => 2 | .sp => 3

/-- The field value of a stack pair (R105). -/
def StackPair.field : StackPair → Nat
  | .bc => 0 | .de => 1 | .hl => 2 | .af => 3

/-- The field value of a condition (R106). -/
def Cond.field : Cond → Nat
  | .nz => 0 | .z => 1 | .nc => 2 | .c => 3

/-- The field value of an ALU operation (R258). -/
def AluOp.field : AluOp → Nat
  | .add => 0 | .adc => 1 | .sub => 2 | .sbc => 3 | .and => 4 | .xor => 5 | .or => 6 | .cp => 7

/-- The field value of a rotate or shift (R114). -/
def RotOp.field : RotOp → Nat
  | .rlc => 0 | .rrc => 1 | .rl => 2 | .rr => 3 | .sla => 4 | .sra => 5 | .swap => 6 | .srl => 7

/-- What an operand of a descriptor is (R107, R108). -/
inductive OperandKind where
  | register8 (r : Reg8)
  | register16 (r : Reg16)
  | immediateU8
  | immediateU16
  | immediateI8
  | ignoredU8
  | indirect (r : Reg16)
  | indirectA16
  | indirectHighA8
  | indirectHighC
  | flag (cc : Cond)
  | bitIndex (i : Nat)
  | restartVector (v : Nat)
  deriving DecidableEq, Repr

/-- The addressing side effect of a load through HL (R110). -/
inductive PostOp where
  | none | increment | decrement
  deriving DecidableEq, Repr

/-- What an instruction does to one flag, as the strings of R12 say it: '-', '0', '1', or a letter. -/
inductive FlagEffect where
  | kept | cleared | set | computed
  deriving DecidableEq, Repr

/-- The table entry of one opcode (R120), with the flag effects of opcode_table.json (R12). -/
structure Descriptor where
  mnemonic : String
  operands : List OperandKind
  length : Nat
  cycles : Nat
  cyclesTaken : Option Nat
  postOp : PostOp
  effectZ : FlagEffect
  effectN : FlagEffect
  effectH : FlagEffect
  effectC : FlagEffect
  deriving DecidableEq, Repr

/-- One constructor per row of spec/opcode_table.json, in the table's order
but that the placeholder and the illegal bytes stand after the other primary rows. An argument `n` is the immediate byte at
p+1, or the little-endian immediate at p+1 and p+2 (R100, R107). `stop` carries its ignored second byte (R422).
`prefixCb` is the placeholder of R113, which no step executes (R147). -/
inductive Instr where
  | nop | ldBC_d16 (n : Word) | ldMemBC_A | incBC | incB | decB | ldB_d8 (n : Byte) | rlca
  | ldMemA16_SP (n : Word) | addHL_BC | ldA_MemBC | decBC | incC | decC | ldC_d8 (n : Byte) | rrca
  | stop (n : Byte) | ldDE_d16 (n : Word) | ldMemDE_A | incDE | incD | decD | ldD_d8 (n : Byte) | rla
  | jrR8 (n : Byte) | addHL_DE | ldA_MemDE | decDE | incE | decE | ldE_d8 (n : Byte) | rra | jrNZ_r8 (n : Byte)
  | ldHL_d16 (n : Word) | ldMemHLInc_A | incHL | incH | decH | ldH_d8 (n : Byte) | daa | jrZ_r8 (n : Byte)
  | addHL_HL | ldA_MemHLInc | decHL | incL | decL | ldL_d8 (n : Byte) | cpl | jrNC_r8 (n : Byte)
  | ldSP_d16 (n : Word) | ldMemHLDec_A | incSP | incMemHL | decMemHL | ldMemHL_d8 (n : Byte) | scf
  | jrC_r8 (n : Byte) | addHL_SP | ldA_MemHLDec | decSP | incA | decA | ldA_d8 (n : Byte) | ccf | ldB_B | ldB_C
  | ldB_D | ldB_E | ldB_H | ldB_L | ldB_MemHL | ldB_A | ldC_B | ldC_C | ldC_D | ldC_E | ldC_H | ldC_L
  | ldC_MemHL | ldC_A | ldD_B | ldD_C | ldD_D | ldD_E | ldD_H | ldD_L | ldD_MemHL | ldD_A | ldE_B | ldE_C
  | ldE_D | ldE_E | ldE_H | ldE_L | ldE_MemHL | ldE_A | ldH_B | ldH_C | ldH_D | ldH_E | ldH_H | ldH_L
  | ldH_MemHL | ldH_A | ldL_B | ldL_C | ldL_D | ldL_E | ldL_H | ldL_L | ldL_MemHL | ldL_A | ldMemHL_B
  | ldMemHL_C | ldMemHL_D | ldMemHL_E | ldMemHL_H | ldMemHL_L | halt | ldMemHL_A | ldA_B | ldA_C | ldA_D
  | ldA_E | ldA_H | ldA_L | ldA_MemHL | ldA_A | addA_B | addA_C | addA_D | addA_E | addA_H | addA_L
  | addA_MemHL | addA_A | adcA_B | adcA_C | adcA_D | adcA_E | adcA_H | adcA_L | adcA_MemHL | adcA_A | subB
  | subC | subD | subE | subH | subL | subMemHL | subA | sbcA_B | sbcA_C | sbcA_D | sbcA_E | sbcA_H | sbcA_L
  | sbcA_MemHL | sbcA_A | andB | andC | andD | andE | andH | andL | andMemHL | andA | xorB | xorC | xorD | xorE
  | xorH | xorL | xorMemHL | xorA | orB | orC | orD | orE | orH | orL | orMemHL | orA | cpB | cpC | cpD | cpE
  | cpH | cpL | cpMemHL | cpA | retNZ | popBC | jpNZ_a16 (n : Word) | jpA16 (n : Word) | callNZ_a16 (n : Word)
  | pushBC | addA_d8 (n : Byte) | rst00 | retZ | ret | jpZ_a16 (n : Word) | callZ_a16 (n : Word)
  | callA16 (n : Word) | adcA_d8 (n : Byte) | rst08 | retNC | popDE | jpNC_a16 (n : Word)
  | callNC_a16 (n : Word) | pushDE | subD8 (n : Byte) | rst10 | retC | reti | jpC_a16 (n : Word)
  | callC_a16 (n : Word) | sbcA_d8 (n : Byte) | rst18 | ldhMemA8_A (n : Byte) | popHL | ldMemC_A | pushHL
  | andD8 (n : Byte) | rst20 | addSP_r8 (n : Byte) | jpHL | ldMemA16_A (n : Word) | xorD8 (n : Byte) | rst28
  | ldhA_MemA8 (n : Byte) | popAF | ldA_MemC | di | pushAF | orD8 (n : Byte) | rst30 | ldHL_SPr8 (n : Byte)
  | ldSP_HL | ldA_MemA16 (n : Word) | ei | cpD8 (n : Byte) | rst38 | prefixCb | illegalD3 | illegalDB
  | illegalDD | illegalE3 | illegalE4 | illegalEB | illegalEC | illegalED | illegalF4 | illegalFC | illegalFD
  | rlcB | rlcC | rlcD | rlcE | rlcH | rlcL | rlcMemHL | rlcA | rrcB | rrcC | rrcD | rrcE | rrcH | rrcL
  | rrcMemHL | rrcA | rlB | rlC | rlD | rlE | rlH | rlL | rlMemHL | rlA | rrB | rrC | rrD | rrE | rrH | rrL
  | rrMemHL | rrA | slaB | slaC | slaD | slaE | slaH | slaL | slaMemHL | slaA | sraB | sraC | sraD | sraE
  | sraH | sraL | sraMemHL | sraA | swapB | swapC | swapD | swapE | swapH | swapL | swapMemHL | swapA | srlB
  | srlC | srlD | srlE | srlH | srlL | srlMemHL | srlA | bit0_B | bit0_C | bit0_D | bit0_E | bit0_H | bit0_L
  | bit0_MemHL | bit0_A | bit1_B | bit1_C | bit1_D | bit1_E | bit1_H | bit1_L | bit1_MemHL | bit1_A | bit2_B
  | bit2_C | bit2_D | bit2_E | bit2_H | bit2_L | bit2_MemHL | bit2_A | bit3_B | bit3_C | bit3_D | bit3_E
  | bit3_H | bit3_L | bit3_MemHL | bit3_A | bit4_B | bit4_C | bit4_D | bit4_E | bit4_H | bit4_L | bit4_MemHL
  | bit4_A | bit5_B | bit5_C | bit5_D | bit5_E | bit5_H | bit5_L | bit5_MemHL | bit5_A | bit6_B | bit6_C
  | bit6_D | bit6_E | bit6_H | bit6_L | bit6_MemHL | bit6_A | bit7_B | bit7_C | bit7_D | bit7_E | bit7_H
  | bit7_L | bit7_MemHL | bit7_A | res0_B | res0_C | res0_D | res0_E | res0_H | res0_L | res0_MemHL | res0_A
  | res1_B | res1_C | res1_D | res1_E | res1_H | res1_L | res1_MemHL | res1_A | res2_B | res2_C | res2_D
  | res2_E | res2_H | res2_L | res2_MemHL | res2_A | res3_B | res3_C | res3_D | res3_E | res3_H | res3_L
  | res3_MemHL | res3_A | res4_B | res4_C | res4_D | res4_E | res4_H | res4_L | res4_MemHL | res4_A | res5_B
  | res5_C | res5_D | res5_E | res5_H | res5_L | res5_MemHL | res5_A | res6_B | res6_C | res6_D | res6_E
  | res6_H | res6_L | res6_MemHL | res6_A | res7_B | res7_C | res7_D | res7_E | res7_H | res7_L | res7_MemHL
  | res7_A | set0_B | set0_C | set0_D | set0_E | set0_H | set0_L | set0_MemHL | set0_A | set1_B | set1_C
  | set1_D | set1_E | set1_H | set1_L | set1_MemHL | set1_A | set2_B | set2_C | set2_D | set2_E | set2_H
  | set2_L | set2_MemHL | set2_A | set3_B | set3_C | set3_D | set3_E | set3_H | set3_L | set3_MemHL | set3_A
  | set4_B | set4_C | set4_D | set4_E | set4_H | set4_L | set4_MemHL | set4_A | set5_B | set5_C | set5_D
  | set5_E | set5_H | set5_L | set5_MemHL | set5_A | set6_B | set6_C | set6_D | set6_E | set6_H | set6_L
  | set6_MemHL | set6_A | set7_B | set7_C | set7_D | set7_E | set7_H | set7_L | set7_MemHL | set7_A
  deriving DecidableEq, Repr

/-- The 49 rows `LD r,r'` (R200). -/
def formLdRegReg : Reg8 → Reg8 → Instr
  | .b, .b => .ldB_B | .b, .c => .ldB_C | .b, .d => .ldB_D | .b, .e => .ldB_E | .b, .h => .ldB_H
  | .b, .l => .ldB_L | .b, .a => .ldB_A | .c, .b => .ldC_B | .c, .c => .ldC_C | .c, .d => .ldC_D
  | .c, .e => .ldC_E | .c, .h => .ldC_H | .c, .l => .ldC_L | .c, .a => .ldC_A | .d, .b => .ldD_B
  | .d, .c => .ldD_C | .d, .d => .ldD_D | .d, .e => .ldD_E | .d, .h => .ldD_H | .d, .l => .ldD_L
  | .d, .a => .ldD_A | .e, .b => .ldE_B | .e, .c => .ldE_C | .e, .d => .ldE_D | .e, .e => .ldE_E
  | .e, .h => .ldE_H | .e, .l => .ldE_L | .e, .a => .ldE_A | .h, .b => .ldH_B | .h, .c => .ldH_C
  | .h, .d => .ldH_D | .h, .e => .ldH_E | .h, .h => .ldH_H | .h, .l => .ldH_L | .h, .a => .ldH_A
  | .l, .b => .ldL_B | .l, .c => .ldL_C | .l, .d => .ldL_D | .l, .e => .ldL_E | .l, .h => .ldL_H
  | .l, .l => .ldL_L | .l, .a => .ldL_A | .a, .b => .ldA_B | .a, .c => .ldA_C | .a, .d => .ldA_D
  | .a, .e => .ldA_E | .a, .h => .ldA_H | .a, .l => .ldA_L | .a, .a => .ldA_A

/-- The 7 rows `LD r,d8` (R201). -/
def formLdRegImm : Reg8 → Byte → Instr
  | .b, n => .ldB_d8 n | .c, n => .ldC_d8 n | .d, n => .ldD_d8 n | .e, n => .ldE_d8 n | .h, n => .ldH_d8 n
  | .l, n => .ldL_d8 n | .a, n => .ldA_d8 n

/-- The 7 rows `LD r,(HL)` (R202). -/
def formLdRegHl : Reg8 → Instr
  | .b => .ldB_MemHL | .c => .ldC_MemHL | .d => .ldD_MemHL | .e => .ldE_MemHL | .h => .ldH_MemHL
  | .l => .ldL_MemHL | .a => .ldA_MemHL

/-- The 7 rows `LD (HL),r` (R203). -/
def formLdHlReg : Reg8 → Instr
  | .b => .ldMemHL_B | .c => .ldMemHL_C | .d => .ldMemHL_D | .e => .ldMemHL_E | .h => .ldMemHL_H
  | .l => .ldMemHL_L | .a => .ldMemHL_A

/-- The 4 rows `LD rr,d16` (R230). -/
def formLdPairImm : Pair → Word → Instr
  | .bc, n => .ldBC_d16 n | .de, n => .ldDE_d16 n | .hl, n => .ldHL_d16 n | .sp, n => .ldSP_d16 n

/-- The 4 rows `PUSH rr` (R233). -/
def formPush : StackPair → Instr
  | .bc => .pushBC | .de => .pushDE | .hl => .pushHL | .af => .pushAF

/-- The 4 rows `POP rr` (R234) and `POP AF` (R235). -/
def formPop : StackPair → Instr
  | .bc => .popBC | .de => .popDE | .hl => .popHL | .af => .popAF

/-- The 56 ALU rows with a register operand (R261 to R282, R258). -/
def formAluReg : AluOp → Reg8 → Instr
  | .add, .b => .addA_B | .add, .c => .addA_C | .add, .d => .addA_D | .add, .e => .addA_E | .add, .h => .addA_H
  | .add, .l => .addA_L | .add, .a => .addA_A | .adc, .b => .adcA_B | .adc, .c => .adcA_C | .adc, .d => .adcA_D
  | .adc, .e => .adcA_E | .adc, .h => .adcA_H | .adc, .l => .adcA_L | .adc, .a => .adcA_A | .sub, .b => .subB
  | .sub, .c => .subC | .sub, .d => .subD | .sub, .e => .subE | .sub, .h => .subH | .sub, .l => .subL
  | .sub, .a => .subA | .sbc, .b => .sbcA_B | .sbc, .c => .sbcA_C | .sbc, .d => .sbcA_D | .sbc, .e => .sbcA_E
  | .sbc, .h => .sbcA_H | .sbc, .l => .sbcA_L | .sbc, .a => .sbcA_A | .and, .b => .andB | .and, .c => .andC
  | .and, .d => .andD | .and, .e => .andE | .and, .h => .andH | .and, .l => .andL | .and, .a => .andA
  | .xor, .b => .xorB | .xor, .c => .xorC | .xor, .d => .xorD | .xor, .e => .xorE | .xor, .h => .xorH
  | .xor, .l => .xorL | .xor, .a => .xorA | .or, .b => .orB | .or, .c => .orC | .or, .d => .orD
  | .or, .e => .orE | .or, .h => .orH | .or, .l => .orL | .or, .a => .orA | .cp, .b => .cpB | .cp, .c => .cpC
  | .cp, .d => .cpD | .cp, .e => .cpE | .cp, .h => .cpH | .cp, .l => .cpL | .cp, .a => .cpA

/-- The 8 ALU rows with operand (HL) (R262 to R283, R258). -/
def formAluMem : AluOp → Instr
  | .add => .addA_MemHL | .adc => .adcA_MemHL | .sub => .subMemHL | .sbc => .sbcA_MemHL | .and => .andMemHL
  | .xor => .xorMemHL | .or => .orMemHL | .cp => .cpMemHL

/-- The 8 ALU rows with operand d8 (R263 to R284, R258). -/
def formAluImm : AluOp → Byte → Instr
  | .add, n => .addA_d8 n | .adc, n => .adcA_d8 n | .sub, n => .subD8 n | .sbc, n => .sbcA_d8 n
  | .and, n => .andD8 n | .xor, n => .xorD8 n | .or, n => .orD8 n | .cp, n => .cpD8 n

/-- The 7 rows `INC r` (R285). -/
def formIncReg : Reg8 → Instr
  | .b => .incB | .c => .incC | .d => .incD | .e => .incE | .h => .incH | .l => .incL | .a => .incA

/-- The 7 rows `DEC r` (R287). -/
def formDecReg : Reg8 → Instr
  | .b => .decB | .c => .decC | .d => .decD | .e => .decE | .h => .decH | .l => .decL | .a => .decA

/-- The 4 rows `ADD HL,rr` (R310). -/
def formAddHl : Pair → Instr
  | .bc => .addHL_BC | .de => .addHL_DE | .hl => .addHL_HL | .sp => .addHL_SP

/-- The 4 rows `INC rr` (R311). -/
def formIncPair : Pair → Instr
  | .bc => .incBC | .de => .incDE | .hl => .incHL | .sp => .incSP

/-- The 4 rows `DEC rr` (R312). -/
def formDecPair : Pair → Instr
  | .bc => .decBC | .de => .decDE | .hl => .decHL | .sp => .decSP

/-- The 56 CB rotate and shift rows on a register (R340 to R354). -/
def formRotReg : RotOp → Reg8 → Instr
  | .rlc, .b => .rlcB | .rlc, .c => .rlcC | .rlc, .d => .rlcD | .rlc, .e => .rlcE | .rlc, .h => .rlcH
  | .rlc, .l => .rlcL | .rlc, .a => .rlcA | .rrc, .b => .rrcB | .rrc, .c => .rrcC | .rrc, .d => .rrcD
  | .rrc, .e => .rrcE | .rrc, .h => .rrcH | .rrc, .l => .rrcL | .rrc, .a => .rrcA | .rl, .b => .rlB
  | .rl, .c => .rlC | .rl, .d => .rlD | .rl, .e => .rlE | .rl, .h => .rlH | .rl, .l => .rlL | .rl, .a => .rlA
  | .rr, .b => .rrB | .rr, .c => .rrC | .rr, .d => .rrD | .rr, .e => .rrE | .rr, .h => .rrH | .rr, .l => .rrL
  | .rr, .a => .rrA | .sla, .b => .slaB | .sla, .c => .slaC | .sla, .d => .slaD | .sla, .e => .slaE
  | .sla, .h => .slaH | .sla, .l => .slaL | .sla, .a => .slaA | .sra, .b => .sraB | .sra, .c => .sraC
  | .sra, .d => .sraD | .sra, .e => .sraE | .sra, .h => .sraH | .sra, .l => .sraL | .sra, .a => .sraA
  | .swap, .b => .swapB | .swap, .c => .swapC | .swap, .d => .swapD | .swap, .e => .swapE | .swap, .h => .swapH
  | .swap, .l => .swapL | .swap, .a => .swapA | .srl, .b => .srlB | .srl, .c => .srlC | .srl, .d => .srlD
  | .srl, .e => .srlE | .srl, .h => .srlH | .srl, .l => .srlL | .srl, .a => .srlA

/-- The 8 CB rotate and shift rows on (HL) (R341 to R355). -/
def formRotMem : RotOp → Instr
  | .rlc => .rlcMemHL | .rrc => .rrcMemHL | .rl => .rlMemHL | .rr => .rrMemHL | .sla => .slaMemHL
  | .sra => .sraMemHL | .swap => .swapMemHL | .srl => .srlMemHL

/-- The 56 rows `BIT b,r` (R356). -/
def formBitReg : Fin 8 → Reg8 → Instr
  | 0, .b => .bit0_B | 0, .c => .bit0_C | 0, .d => .bit0_D | 0, .e => .bit0_E | 0, .h => .bit0_H
  | 0, .l => .bit0_L | 0, .a => .bit0_A | 1, .b => .bit1_B | 1, .c => .bit1_C | 1, .d => .bit1_D
  | 1, .e => .bit1_E | 1, .h => .bit1_H | 1, .l => .bit1_L | 1, .a => .bit1_A | 2, .b => .bit2_B
  | 2, .c => .bit2_C | 2, .d => .bit2_D | 2, .e => .bit2_E | 2, .h => .bit2_H | 2, .l => .bit2_L
  | 2, .a => .bit2_A | 3, .b => .bit3_B | 3, .c => .bit3_C | 3, .d => .bit3_D | 3, .e => .bit3_E
  | 3, .h => .bit3_H | 3, .l => .bit3_L | 3, .a => .bit3_A | 4, .b => .bit4_B | 4, .c => .bit4_C
  | 4, .d => .bit4_D | 4, .e => .bit4_E | 4, .h => .bit4_H | 4, .l => .bit4_L | 4, .a => .bit4_A
  | 5, .b => .bit5_B | 5, .c => .bit5_C | 5, .d => .bit5_D | 5, .e => .bit5_E | 5, .h => .bit5_H
  | 5, .l => .bit5_L | 5, .a => .bit5_A | 6, .b => .bit6_B | 6, .c => .bit6_C | 6, .d => .bit6_D
  | 6, .e => .bit6_E | 6, .h => .bit6_H | 6, .l => .bit6_L | 6, .a => .bit6_A | 7, .b => .bit7_B
  | 7, .c => .bit7_C | 7, .d => .bit7_D | 7, .e => .bit7_E | 7, .h => .bit7_H | 7, .l => .bit7_L
  | 7, .a => .bit7_A

/-- The 8 rows `BIT b,(HL)` (R357). -/
def formBitMem : Fin 8 → Instr
  | 0 => .bit0_MemHL | 1 => .bit1_MemHL | 2 => .bit2_MemHL | 3 => .bit3_MemHL | 4 => .bit4_MemHL
  | 5 => .bit5_MemHL | 6 => .bit6_MemHL | 7 => .bit7_MemHL

/-- The 56 rows `RES b,r` (R358). -/
def formResReg : Fin 8 → Reg8 → Instr
  | 0, .b => .res0_B | 0, .c => .res0_C | 0, .d => .res0_D | 0, .e => .res0_E | 0, .h => .res0_H
  | 0, .l => .res0_L | 0, .a => .res0_A | 1, .b => .res1_B | 1, .c => .res1_C | 1, .d => .res1_D
  | 1, .e => .res1_E | 1, .h => .res1_H | 1, .l => .res1_L | 1, .a => .res1_A | 2, .b => .res2_B
  | 2, .c => .res2_C | 2, .d => .res2_D | 2, .e => .res2_E | 2, .h => .res2_H | 2, .l => .res2_L
  | 2, .a => .res2_A | 3, .b => .res3_B | 3, .c => .res3_C | 3, .d => .res3_D | 3, .e => .res3_E
  | 3, .h => .res3_H | 3, .l => .res3_L | 3, .a => .res3_A | 4, .b => .res4_B | 4, .c => .res4_C
  | 4, .d => .res4_D | 4, .e => .res4_E | 4, .h => .res4_H | 4, .l => .res4_L | 4, .a => .res4_A
  | 5, .b => .res5_B | 5, .c => .res5_C | 5, .d => .res5_D | 5, .e => .res5_E | 5, .h => .res5_H
  | 5, .l => .res5_L | 5, .a => .res5_A | 6, .b => .res6_B | 6, .c => .res6_C | 6, .d => .res6_D
  | 6, .e => .res6_E | 6, .h => .res6_H | 6, .l => .res6_L | 6, .a => .res6_A | 7, .b => .res7_B
  | 7, .c => .res7_C | 7, .d => .res7_D | 7, .e => .res7_E | 7, .h => .res7_H | 7, .l => .res7_L
  | 7, .a => .res7_A

/-- The 8 rows `RES b,(HL)` (R359). -/
def formResMem : Fin 8 → Instr
  | 0 => .res0_MemHL | 1 => .res1_MemHL | 2 => .res2_MemHL | 3 => .res3_MemHL | 4 => .res4_MemHL
  | 5 => .res5_MemHL | 6 => .res6_MemHL | 7 => .res7_MemHL

/-- The 56 rows `SET b,r` (R360). -/
def formSetReg : Fin 8 → Reg8 → Instr
  | 0, .b => .set0_B | 0, .c => .set0_C | 0, .d => .set0_D | 0, .e => .set0_E | 0, .h => .set0_H
  | 0, .l => .set0_L | 0, .a => .set0_A | 1, .b => .set1_B | 1, .c => .set1_C | 1, .d => .set1_D
  | 1, .e => .set1_E | 1, .h => .set1_H | 1, .l => .set1_L | 1, .a => .set1_A | 2, .b => .set2_B
  | 2, .c => .set2_C | 2, .d => .set2_D | 2, .e => .set2_E | 2, .h => .set2_H | 2, .l => .set2_L
  | 2, .a => .set2_A | 3, .b => .set3_B | 3, .c => .set3_C | 3, .d => .set3_D | 3, .e => .set3_E
  | 3, .h => .set3_H | 3, .l => .set3_L | 3, .a => .set3_A | 4, .b => .set4_B | 4, .c => .set4_C
  | 4, .d => .set4_D | 4, .e => .set4_E | 4, .h => .set4_H | 4, .l => .set4_L | 4, .a => .set4_A
  | 5, .b => .set5_B | 5, .c => .set5_C | 5, .d => .set5_D | 5, .e => .set5_E | 5, .h => .set5_H
  | 5, .l => .set5_L | 5, .a => .set5_A | 6, .b => .set6_B | 6, .c => .set6_C | 6, .d => .set6_D
  | 6, .e => .set6_E | 6, .h => .set6_H | 6, .l => .set6_L | 6, .a => .set6_A | 7, .b => .set7_B
  | 7, .c => .set7_C | 7, .d => .set7_D | 7, .e => .set7_E | 7, .h => .set7_H | 7, .l => .set7_L
  | 7, .a => .set7_A

/-- The 8 rows `SET b,(HL)` (R361). -/
def formSetMem : Fin 8 → Instr
  | 0 => .set0_MemHL | 1 => .set1_MemHL | 2 => .set2_MemHL | 3 => .set3_MemHL | 4 => .set4_MemHL
  | 5 => .set5_MemHL | 6 => .set6_MemHL | 7 => .set7_MemHL

/-- The 4 rows `JR cc,r8` (R384). -/
def formJrIf : Cond → Byte → Instr
  | .nz, n => .jrNZ_r8 n | .z, n => .jrZ_r8 n | .nc, n => .jrNC_r8 n | .c, n => .jrC_r8 n

/-- The 4 rows `JP cc,a16` (R381). -/
def formJpIf : Cond → Word → Instr
  | .nz, n => .jpNZ_a16 n | .z, n => .jpZ_a16 n | .nc, n => .jpNC_a16 n | .c, n => .jpC_a16 n

/-- The 4 rows `CALL cc,a16` (R386). -/
def formCallIf : Cond → Word → Instr
  | .nz, n => .callNZ_a16 n | .z, n => .callZ_a16 n | .nc, n => .callNC_a16 n | .c, n => .callC_a16 n

/-- The 4 rows `RET cc` (R388). -/
def formRetIf : Cond → Instr
  | .nz => .retNZ | .z => .retZ | .nc => .retNC | .c => .retC

/-- The 8 rows `RST t`, t the vector divided by 8 (R390). -/
def formRst : Fin 8 → Instr
  | 0 => .rst00 | 1 => .rst08 | 2 => .rst10 | 3 => .rst18 | 4 => .rst20 | 5 => .rst28 | 6 => .rst30
  | 7 => .rst38

/-- The eleven rows of R112, the bytes that select no instruction (R425). -/
def illegalInstrs : List Instr :=
  [.illegalD3, .illegalDB, .illegalDD, .illegalE3, .illegalE4, .illegalEB, .illegalEC, .illegalED, .illegalF4, .illegalFC, .illegalFD]

end Sys2Proof
end

