-- ==== Sys2Proof/WellFormed.lean ====
section
/-! DEFINITION. Which terms of Instr are instructions. Every operand's range is in its type (R103 to R107), so one check
is left: the placeholder is no instruction (R113, R147). -/

namespace Sys2Proof

/-- R113: "The primary byte 0xCB is the prefix, not an instruction." -/
def Instr.wellFormed (i : Instr) : Bool :=
  decide (i ≠ .prefixCb)

end Sys2Proof
end

