-- ==== Sys2Proof/Decode.lean ====
section
/-! DEFINITION. The decoder, total on any bytes (R141: the opcode maps of R111 and R114), the encoder (R100), and the
host's numbering of a table row's bits. -/

namespace Sys2Proof

/-- R8: bits 15..8. -/
def hiByte (v : Word) : Byte := v.extractLsb' 8 8

/-- R8: bits 7..0. -/
def loByte (v : Word) : Byte := v.extractLsb' 0 8

/-- R9: `hi ++ lo`. -/
def wordOfBytes (hi lo : Byte) : Word := hi ++ lo

/-- A decode under way (R141): finished, or waiting for the instruction's next byte, at the next address. -/
inductive Decoding where
  | done (i : Instr)
  | more (next : Byte → Decoding)

/-- A format P2 row: one immediate byte (R100). -/
def imm8 (mk : Byte → Instr) : Decoding :=
  .more fun n => .done (mk n)

/-- A format P3 row: the low byte first, then the high byte (R73, R100). -/
def imm16 (mk : Word → Instr) : Decoding :=
  .more fun lo => .more fun hi => .done (mk (wordOfBytes hi lo))

/-- Row 0x of the CB-prefixed map (R114). -/
def cbRow0 : List Instr :=
  [.rlcB, .rlcC, .rlcD, .rlcE, .rlcH, .rlcL, .rlcMemHL, .rlcA, .rrcB, .rrcC, .rrcD, .rrcE, .rrcH, .rrcL,
   .rrcMemHL, .rrcA]

/-- Row 1x of the CB-prefixed map (R114). -/
def cbRow1 : List Instr :=
  [.rlB, .rlC, .rlD, .rlE, .rlH, .rlL, .rlMemHL, .rlA, .rrB, .rrC, .rrD, .rrE, .rrH, .rrL, .rrMemHL, .rrA]

/-- Row 2x of the CB-prefixed map (R114). -/
def cbRow2 : List Instr :=
  [.slaB, .slaC, .slaD, .slaE, .slaH, .slaL, .slaMemHL, .slaA, .sraB, .sraC, .sraD, .sraE, .sraH, .sraL,
   .sraMemHL, .sraA]

/-- Row 3x of the CB-prefixed map (R114). -/
def cbRow3 : List Instr :=
  [.swapB, .swapC, .swapD, .swapE, .swapH, .swapL, .swapMemHL, .swapA, .srlB, .srlC, .srlD, .srlE, .srlH, .srlL,
   .srlMemHL, .srlA]

/-- Row 4x of the CB-prefixed map (R114). -/
def cbRow4 : List Instr :=
  [.bit0_B, .bit0_C, .bit0_D, .bit0_E, .bit0_H, .bit0_L, .bit0_MemHL, .bit0_A, .bit1_B, .bit1_C, .bit1_D,
   .bit1_E, .bit1_H, .bit1_L, .bit1_MemHL, .bit1_A]

/-- Row 5x of the CB-prefixed map (R114). -/
def cbRow5 : List Instr :=
  [.bit2_B, .bit2_C, .bit2_D, .bit2_E, .bit2_H, .bit2_L, .bit2_MemHL, .bit2_A, .bit3_B, .bit3_C, .bit3_D,
   .bit3_E, .bit3_H, .bit3_L, .bit3_MemHL, .bit3_A]

/-- Row 6x of the CB-prefixed map (R114). -/
def cbRow6 : List Instr :=
  [.bit4_B, .bit4_C, .bit4_D, .bit4_E, .bit4_H, .bit4_L, .bit4_MemHL, .bit4_A, .bit5_B, .bit5_C, .bit5_D,
   .bit5_E, .bit5_H, .bit5_L, .bit5_MemHL, .bit5_A]

/-- Row 7x of the CB-prefixed map (R114). -/
def cbRow7 : List Instr :=
  [.bit6_B, .bit6_C, .bit6_D, .bit6_E, .bit6_H, .bit6_L, .bit6_MemHL, .bit6_A, .bit7_B, .bit7_C, .bit7_D,
   .bit7_E, .bit7_H, .bit7_L, .bit7_MemHL, .bit7_A]

/-- Row 8x of the CB-prefixed map (R114). -/
def cbRow8 : List Instr :=
  [.res0_B, .res0_C, .res0_D, .res0_E, .res0_H, .res0_L, .res0_MemHL, .res0_A, .res1_B, .res1_C, .res1_D,
   .res1_E, .res1_H, .res1_L, .res1_MemHL, .res1_A]

/-- Row 9x of the CB-prefixed map (R114). -/
def cbRow9 : List Instr :=
  [.res2_B, .res2_C, .res2_D, .res2_E, .res2_H, .res2_L, .res2_MemHL, .res2_A, .res3_B, .res3_C, .res3_D,
   .res3_E, .res3_H, .res3_L, .res3_MemHL, .res3_A]

/-- Row Ax of the CB-prefixed map (R114). -/
def cbRowA : List Instr :=
  [.res4_B, .res4_C, .res4_D, .res4_E, .res4_H, .res4_L, .res4_MemHL, .res4_A, .res5_B, .res5_C, .res5_D,
   .res5_E, .res5_H, .res5_L, .res5_MemHL, .res5_A]

/-- Row Bx of the CB-prefixed map (R114). -/
def cbRowB : List Instr :=
  [.res6_B, .res6_C, .res6_D, .res6_E, .res6_H, .res6_L, .res6_MemHL, .res6_A, .res7_B, .res7_C, .res7_D,
   .res7_E, .res7_H, .res7_L, .res7_MemHL, .res7_A]

/-- Row Cx of the CB-prefixed map (R114). -/
def cbRowC : List Instr :=
  [.set0_B, .set0_C, .set0_D, .set0_E, .set0_H, .set0_L, .set0_MemHL, .set0_A, .set1_B, .set1_C, .set1_D,
   .set1_E, .set1_H, .set1_L, .set1_MemHL, .set1_A]

/-- Row Dx of the CB-prefixed map (R114). -/
def cbRowD : List Instr :=
  [.set2_B, .set2_C, .set2_D, .set2_E, .set2_H, .set2_L, .set2_MemHL, .set2_A, .set3_B, .set3_C, .set3_D,
   .set3_E, .set3_H, .set3_L, .set3_MemHL, .set3_A]

/-- Row Ex of the CB-prefixed map (R114). -/
def cbRowE : List Instr :=
  [.set4_B, .set4_C, .set4_D, .set4_E, .set4_H, .set4_L, .set4_MemHL, .set4_A, .set5_B, .set5_C, .set5_D,
   .set5_E, .set5_H, .set5_L, .set5_MemHL, .set5_A]

/-- Row Fx of the CB-prefixed map (R114). -/
def cbRowF : List Instr :=
  [.set6_B, .set6_C, .set6_D, .set6_E, .set6_H, .set6_L, .set6_MemHL, .set6_A, .set7_B, .set7_C, .set7_D,
   .set7_E, .set7_H, .set7_L, .set7_MemHL, .set7_A]

/-- The CB-prefixed map (R114). -/
def cbMap : List (List Instr) :=
  [cbRow0, cbRow1, cbRow2, cbRow3, cbRow4, cbRow5, cbRow6, cbRow7,
   cbRow8, cbRow9, cbRowA, cbRowB, cbRowC, cbRowD, cbRowE, cbRowF]

/-- The instruction the pair of bytes 0xCB, `s` selects; every `s` is defined (R114). -/
def cbEntry (s : Byte) : Instr :=
  (cbMap.getD (s.toNat / 16) []).getD (s.toNat % 16) .nop

/-- Row 0x of the primary map (R111). -/
def primaryRow0 : List Decoding :=
  [.done .nop, imm16 .ldBC_d16, .done .ldMemBC_A, .done .incBC, .done .incB, .done .decB, imm8 .ldB_d8,
   .done .rlca, imm16 .ldMemA16_SP, .done .addHL_BC, .done .ldA_MemBC, .done .decBC, .done .incC, .done .decC,
   imm8 .ldC_d8, .done .rrca]

/-- Row 1x of the primary map (R111). -/
def primaryRow1 : List Decoding :=
  [imm8 .stop, imm16 .ldDE_d16, .done .ldMemDE_A, .done .incDE, .done .incD, .done .decD, imm8 .ldD_d8,
   .done .rla, imm8 .jrR8, .done .addHL_DE, .done .ldA_MemDE, .done .decDE, .done .incE, .done .decE,
   imm8 .ldE_d8, .done .rra]

/-- Row 2x of the primary map (R111). -/
def primaryRow2 : List Decoding :=
  [imm8 .jrNZ_r8, imm16 .ldHL_d16, .done .ldMemHLInc_A, .done .incHL, .done .incH, .done .decH, imm8 .ldH_d8,
   .done .daa, imm8 .jrZ_r8, .done .addHL_HL, .done .ldA_MemHLInc, .done .decHL, .done .incL, .done .decL,
   imm8 .ldL_d8, .done .cpl]

/-- Row 3x of the primary map (R111). -/
def primaryRow3 : List Decoding :=
  [imm8 .jrNC_r8, imm16 .ldSP_d16, .done .ldMemHLDec_A, .done .incSP, .done .incMemHL, .done .decMemHL,
   imm8 .ldMemHL_d8, .done .scf, imm8 .jrC_r8, .done .addHL_SP, .done .ldA_MemHLDec, .done .decSP, .done .incA,
   .done .decA, imm8 .ldA_d8, .done .ccf]

/-- Row 4x of the primary map (R111). -/
def primaryRow4 : List Decoding :=
  [.done .ldB_B, .done .ldB_C, .done .ldB_D, .done .ldB_E, .done .ldB_H, .done .ldB_L, .done .ldB_MemHL,
   .done .ldB_A, .done .ldC_B, .done .ldC_C, .done .ldC_D, .done .ldC_E, .done .ldC_H, .done .ldC_L,
   .done .ldC_MemHL, .done .ldC_A]

/-- Row 5x of the primary map (R111). -/
def primaryRow5 : List Decoding :=
  [.done .ldD_B, .done .ldD_C, .done .ldD_D, .done .ldD_E, .done .ldD_H, .done .ldD_L, .done .ldD_MemHL,
   .done .ldD_A, .done .ldE_B, .done .ldE_C, .done .ldE_D, .done .ldE_E, .done .ldE_H, .done .ldE_L,
   .done .ldE_MemHL, .done .ldE_A]

/-- Row 6x of the primary map (R111). -/
def primaryRow6 : List Decoding :=
  [.done .ldH_B, .done .ldH_C, .done .ldH_D, .done .ldH_E, .done .ldH_H, .done .ldH_L, .done .ldH_MemHL,
   .done .ldH_A, .done .ldL_B, .done .ldL_C, .done .ldL_D, .done .ldL_E, .done .ldL_H, .done .ldL_L,
   .done .ldL_MemHL, .done .ldL_A]

/-- Row 7x of the primary map (R111). -/
def primaryRow7 : List Decoding :=
  [.done .ldMemHL_B, .done .ldMemHL_C, .done .ldMemHL_D, .done .ldMemHL_E, .done .ldMemHL_H, .done .ldMemHL_L,
   .done .halt, .done .ldMemHL_A, .done .ldA_B, .done .ldA_C, .done .ldA_D, .done .ldA_E, .done .ldA_H,
   .done .ldA_L, .done .ldA_MemHL, .done .ldA_A]

/-- Row 8x of the primary map (R111). -/
def primaryRow8 : List Decoding :=
  [.done .addA_B, .done .addA_C, .done .addA_D, .done .addA_E, .done .addA_H, .done .addA_L, .done .addA_MemHL,
   .done .addA_A, .done .adcA_B, .done .adcA_C, .done .adcA_D, .done .adcA_E, .done .adcA_H, .done .adcA_L,
   .done .adcA_MemHL, .done .adcA_A]

/-- Row 9x of the primary map (R111). -/
def primaryRow9 : List Decoding :=
  [.done .subB, .done .subC, .done .subD, .done .subE, .done .subH, .done .subL, .done .subMemHL, .done .subA,
   .done .sbcA_B, .done .sbcA_C, .done .sbcA_D, .done .sbcA_E, .done .sbcA_H, .done .sbcA_L, .done .sbcA_MemHL,
   .done .sbcA_A]

/-- Row Ax of the primary map (R111). -/
def primaryRowA : List Decoding :=
  [.done .andB, .done .andC, .done .andD, .done .andE, .done .andH, .done .andL, .done .andMemHL, .done .andA,
   .done .xorB, .done .xorC, .done .xorD, .done .xorE, .done .xorH, .done .xorL, .done .xorMemHL, .done .xorA]

/-- Row Bx of the primary map (R111). -/
def primaryRowB : List Decoding :=
  [.done .orB, .done .orC, .done .orD, .done .orE, .done .orH, .done .orL, .done .orMemHL, .done .orA,
   .done .cpB, .done .cpC, .done .cpD, .done .cpE, .done .cpH, .done .cpL, .done .cpMemHL, .done .cpA]

/-- Row Cx of the primary map (R111). -/
def primaryRowC : List Decoding :=
  [.done .retNZ, .done .popBC, imm16 .jpNZ_a16, imm16 .jpA16, imm16 .callNZ_a16, .done .pushBC, imm8 .addA_d8,
   .done .rst00, .done .retZ, .done .ret, imm16 .jpZ_a16, .done .prefixCb, imm16 .callZ_a16, imm16 .callA16,
   imm8 .adcA_d8, .done .rst08]

/-- Row Dx of the primary map (R111). -/
def primaryRowD : List Decoding :=
  [.done .retNC, .done .popDE, imm16 .jpNC_a16, .done .illegalD3, imm16 .callNC_a16, .done .pushDE, imm8 .subD8,
   .done .rst10, .done .retC, .done .reti, imm16 .jpC_a16, .done .illegalDB, imm16 .callC_a16, .done .illegalDD,
   imm8 .sbcA_d8, .done .rst18]

/-- Row Ex of the primary map (R111). -/
def primaryRowE : List Decoding :=
  [imm8 .ldhMemA8_A, .done .popHL, .done .ldMemC_A, .done .illegalE3, .done .illegalE4, .done .pushHL,
   imm8 .andD8, .done .rst20, imm8 .addSP_r8, .done .jpHL, imm16 .ldMemA16_A, .done .illegalEB,
   .done .illegalEC, .done .illegalED, imm8 .xorD8, .done .rst28]

/-- Row Fx of the primary map (R111). -/
def primaryRowF : List Decoding :=
  [imm8 .ldhA_MemA8, .done .popAF, .done .ldA_MemC, .done .di, .done .illegalF4, .done .pushAF, imm8 .orD8,
   .done .rst30, imm8 .ldHL_SPr8, .done .ldSP_HL, imm16 .ldA_MemA16, .done .ei, .done .illegalFC,
   .done .illegalFD, imm8 .cpD8, .done .rst38]

/-- The primary map (R111). -/
def primaryMap : List (List Decoding) :=
  [primaryRow0, primaryRow1, primaryRow2, primaryRow3, primaryRow4, primaryRow5,
   primaryRow6, primaryRow7, primaryRow8, primaryRow9, primaryRowA, primaryRowB,
   primaryRowC, primaryRowD, primaryRowE, primaryRowF]

/-- What the primary byte `op` selects in the map; 0xCB selects the placeholder (R113). -/
def primaryEntry (op : Byte) : Decoding :=
  (primaryMap.getD (op.toNat / 16) []).getD (op.toNat % 16) (.done .nop)

/-- R141: the first byte decides; "if it equals the CB-prefix sentinel, reads one further byte and looks up in the
secondary table, else looks up in the primary table". -/
def decodeFrom (op : Byte) : Decoding :=
  if op = 0xCB then .more fun s => .done (cbEntry s) else primaryEntry op

/-- Why a list of bytes holds no whole instruction: every first byte selects one (R115), so only bytes can lack. -/
inductive DecodeError where
  | noOpcodeByte
  | missingByte
  deriving DecidableEq, Repr

/-- A decode fed from a list of bytes: the instruction and the bytes after it. -/
def Decoding.feed : Decoding → List Byte → Except DecodeError (Instr × List Byte)
  | .done i, bs => .ok (i, bs)
  | .more _, [] => .error .missingByte
  | .more next, b :: bs => (next b).feed bs

/-- The instruction at the head of a list of bytes, in increasing address order (R100), and the bytes after it. -/
def decode : List Byte → Except DecodeError (Instr × List Byte)
  | [] => .error .noOpcodeByte
  | op :: bs => (decodeFrom op).feed bs

/-- The bytes of an instruction in increasing address order (R100, R111, R114); for the placeholder, its row's one
byte (R113). -/
def encode : Instr → List Byte
  | .nop => [0x00]
  | .ldBC_d16 n => [0x01, loByte n, hiByte n]
  | .ldMemBC_A => [0x02]
  | .incBC => [0x03]
  | .incB => [0x04]
  | .decB => [0x05]
  | .ldB_d8 n => [0x06, n]
  | .rlca => [0x07]
  | .ldMemA16_SP n => [0x08, loByte n, hiByte n]
  | .addHL_BC => [0x09]
  | .ldA_MemBC => [0x0A]
  | .decBC => [0x0B]
  | .incC => [0x0C]
  | .decC => [0x0D]
  | .ldC_d8 n => [0x0E, n]
  | .rrca => [0x0F]
  | .stop n => [0x10, n]
  | .ldDE_d16 n => [0x11, loByte n, hiByte n]
  | .ldMemDE_A => [0x12]
  | .incDE => [0x13]
  | .incD => [0x14]
  | .decD => [0x15]
  | .ldD_d8 n => [0x16, n]
  | .rla => [0x17]
  | .jrR8 n => [0x18, n]
  | .addHL_DE => [0x19]
  | .ldA_MemDE => [0x1A]
  | .decDE => [0x1B]
  | .incE => [0x1C]
  | .decE => [0x1D]
  | .ldE_d8 n => [0x1E, n]
  | .rra => [0x1F]
  | .jrNZ_r8 n => [0x20, n]
  | .ldHL_d16 n => [0x21, loByte n, hiByte n]
  | .ldMemHLInc_A => [0x22]
  | .incHL => [0x23]
  | .incH => [0x24]
  | .decH => [0x25]
  | .ldH_d8 n => [0x26, n]
  | .daa => [0x27]
  | .jrZ_r8 n => [0x28, n]
  | .addHL_HL => [0x29]
  | .ldA_MemHLInc => [0x2A]
  | .decHL => [0x2B]
  | .incL => [0x2C]
  | .decL => [0x2D]
  | .ldL_d8 n => [0x2E, n]
  | .cpl => [0x2F]
  | .jrNC_r8 n => [0x30, n]
  | .ldSP_d16 n => [0x31, loByte n, hiByte n]
  | .ldMemHLDec_A => [0x32]
  | .incSP => [0x33]
  | .incMemHL => [0x34]
  | .decMemHL => [0x35]
  | .ldMemHL_d8 n => [0x36, n]
  | .scf => [0x37]
  | .jrC_r8 n => [0x38, n]
  | .addHL_SP => [0x39]
  | .ldA_MemHLDec => [0x3A]
  | .decSP => [0x3B]
  | .incA => [0x3C]
  | .decA => [0x3D]
  | .ldA_d8 n => [0x3E, n]
  | .ccf => [0x3F]
  | .ldB_B => [0x40]
  | .ldB_C => [0x41]
  | .ldB_D => [0x42]
  | .ldB_E => [0x43]
  | .ldB_H => [0x44]
  | .ldB_L => [0x45]
  | .ldB_MemHL => [0x46]
  | .ldB_A => [0x47]
  | .ldC_B => [0x48]
  | .ldC_C => [0x49]
  | .ldC_D => [0x4A]
  | .ldC_E => [0x4B]
  | .ldC_H => [0x4C]
  | .ldC_L => [0x4D]
  | .ldC_MemHL => [0x4E]
  | .ldC_A => [0x4F]
  | .ldD_B => [0x50]
  | .ldD_C => [0x51]
  | .ldD_D => [0x52]
  | .ldD_E => [0x53]
  | .ldD_H => [0x54]
  | .ldD_L => [0x55]
  | .ldD_MemHL => [0x56]
  | .ldD_A => [0x57]
  | .ldE_B => [0x58]
  | .ldE_C => [0x59]
  | .ldE_D => [0x5A]
  | .ldE_E => [0x5B]
  | .ldE_H => [0x5C]
  | .ldE_L => [0x5D]
  | .ldE_MemHL => [0x5E]
  | .ldE_A => [0x5F]
  | .ldH_B => [0x60]
  | .ldH_C => [0x61]
  | .ldH_D => [0x62]
  | .ldH_E => [0x63]
  | .ldH_H => [0x64]
  | .ldH_L => [0x65]
  | .ldH_MemHL => [0x66]
  | .ldH_A => [0x67]
  | .ldL_B => [0x68]
  | .ldL_C => [0x69]
  | .ldL_D => [0x6A]
  | .ldL_E => [0x6B]
  | .ldL_H => [0x6C]
  | .ldL_L => [0x6D]
  | .ldL_MemHL => [0x6E]
  | .ldL_A => [0x6F]
  | .ldMemHL_B => [0x70]
  | .ldMemHL_C => [0x71]
  | .ldMemHL_D => [0x72]
  | .ldMemHL_E => [0x73]
  | .ldMemHL_H => [0x74]
  | .ldMemHL_L => [0x75]
  | .halt => [0x76]
  | .ldMemHL_A => [0x77]
  | .ldA_B => [0x78]
  | .ldA_C => [0x79]
  | .ldA_D => [0x7A]
  | .ldA_E => [0x7B]
  | .ldA_H => [0x7C]
  | .ldA_L => [0x7D]
  | .ldA_MemHL => [0x7E]
  | .ldA_A => [0x7F]
  | .addA_B => [0x80]
  | .addA_C => [0x81]
  | .addA_D => [0x82]
  | .addA_E => [0x83]
  | .addA_H => [0x84]
  | .addA_L => [0x85]
  | .addA_MemHL => [0x86]
  | .addA_A => [0x87]
  | .adcA_B => [0x88]
  | .adcA_C => [0x89]
  | .adcA_D => [0x8A]
  | .adcA_E => [0x8B]
  | .adcA_H => [0x8C]
  | .adcA_L => [0x8D]
  | .adcA_MemHL => [0x8E]
  | .adcA_A => [0x8F]
  | .subB => [0x90]
  | .subC => [0x91]
  | .subD => [0x92]
  | .subE => [0x93]
  | .subH => [0x94]
  | .subL => [0x95]
  | .subMemHL => [0x96]
  | .subA => [0x97]
  | .sbcA_B => [0x98]
  | .sbcA_C => [0x99]
  | .sbcA_D => [0x9A]
  | .sbcA_E => [0x9B]
  | .sbcA_H => [0x9C]
  | .sbcA_L => [0x9D]
  | .sbcA_MemHL => [0x9E]
  | .sbcA_A => [0x9F]
  | .andB => [0xA0]
  | .andC => [0xA1]
  | .andD => [0xA2]
  | .andE => [0xA3]
  | .andH => [0xA4]
  | .andL => [0xA5]
  | .andMemHL => [0xA6]
  | .andA => [0xA7]
  | .xorB => [0xA8]
  | .xorC => [0xA9]
  | .xorD => [0xAA]
  | .xorE => [0xAB]
  | .xorH => [0xAC]
  | .xorL => [0xAD]
  | .xorMemHL => [0xAE]
  | .xorA => [0xAF]
  | .orB => [0xB0]
  | .orC => [0xB1]
  | .orD => [0xB2]
  | .orE => [0xB3]
  | .orH => [0xB4]
  | .orL => [0xB5]
  | .orMemHL => [0xB6]
  | .orA => [0xB7]
  | .cpB => [0xB8]
  | .cpC => [0xB9]
  | .cpD => [0xBA]
  | .cpE => [0xBB]
  | .cpH => [0xBC]
  | .cpL => [0xBD]
  | .cpMemHL => [0xBE]
  | .cpA => [0xBF]
  | .retNZ => [0xC0]
  | .popBC => [0xC1]
  | .jpNZ_a16 n => [0xC2, loByte n, hiByte n]
  | .jpA16 n => [0xC3, loByte n, hiByte n]
  | .callNZ_a16 n => [0xC4, loByte n, hiByte n]
  | .pushBC => [0xC5]
  | .addA_d8 n => [0xC6, n]
  | .rst00 => [0xC7]
  | .retZ => [0xC8]
  | .ret => [0xC9]
  | .jpZ_a16 n => [0xCA, loByte n, hiByte n]
  | .callZ_a16 n => [0xCC, loByte n, hiByte n]
  | .callA16 n => [0xCD, loByte n, hiByte n]
  | .adcA_d8 n => [0xCE, n]
  | .rst08 => [0xCF]
  | .retNC => [0xD0]
  | .popDE => [0xD1]
  | .jpNC_a16 n => [0xD2, loByte n, hiByte n]
  | .callNC_a16 n => [0xD4, loByte n, hiByte n]
  | .pushDE => [0xD5]
  | .subD8 n => [0xD6, n]
  | .rst10 => [0xD7]
  | .retC => [0xD8]
  | .reti => [0xD9]
  | .jpC_a16 n => [0xDA, loByte n, hiByte n]
  | .callC_a16 n => [0xDC, loByte n, hiByte n]
  | .sbcA_d8 n => [0xDE, n]
  | .rst18 => [0xDF]
  | .ldhMemA8_A n => [0xE0, n]
  | .popHL => [0xE1]
  | .ldMemC_A => [0xE2]
  | .pushHL => [0xE5]
  | .andD8 n => [0xE6, n]
  | .rst20 => [0xE7]
  | .addSP_r8 n => [0xE8, n]
  | .jpHL => [0xE9]
  | .ldMemA16_A n => [0xEA, loByte n, hiByte n]
  | .xorD8 n => [0xEE, n]
  | .rst28 => [0xEF]
  | .ldhA_MemA8 n => [0xF0, n]
  | .popAF => [0xF1]
  | .ldA_MemC => [0xF2]
  | .di => [0xF3]
  | .pushAF => [0xF5]
  | .orD8 n => [0xF6, n]
  | .rst30 => [0xF7]
  | .ldHL_SPr8 n => [0xF8, n]
  | .ldSP_HL => [0xF9]
  | .ldA_MemA16 n => [0xFA, loByte n, hiByte n]
  | .ei => [0xFB]
  | .cpD8 n => [0xFE, n]
  | .rst38 => [0xFF]
  | .prefixCb => [0xCB]
  | .illegalD3 => [0xD3]
  | .illegalDB => [0xDB]
  | .illegalDD => [0xDD]
  | .illegalE3 => [0xE3]
  | .illegalE4 => [0xE4]
  | .illegalEB => [0xEB]
  | .illegalEC => [0xEC]
  | .illegalED => [0xED]
  | .illegalF4 => [0xF4]
  | .illegalFC => [0xFC]
  | .illegalFD => [0xFD]
  | .rlcB => [0xCB, 0x00]
  | .rlcC => [0xCB, 0x01]
  | .rlcD => [0xCB, 0x02]
  | .rlcE => [0xCB, 0x03]
  | .rlcH => [0xCB, 0x04]
  | .rlcL => [0xCB, 0x05]
  | .rlcMemHL => [0xCB, 0x06]
  | .rlcA => [0xCB, 0x07]
  | .rrcB => [0xCB, 0x08]
  | .rrcC => [0xCB, 0x09]
  | .rrcD => [0xCB, 0x0A]
  | .rrcE => [0xCB, 0x0B]
  | .rrcH => [0xCB, 0x0C]
  | .rrcL => [0xCB, 0x0D]
  | .rrcMemHL => [0xCB, 0x0E]
  | .rrcA => [0xCB, 0x0F]
  | .rlB => [0xCB, 0x10]
  | .rlC => [0xCB, 0x11]
  | .rlD => [0xCB, 0x12]
  | .rlE => [0xCB, 0x13]
  | .rlH => [0xCB, 0x14]
  | .rlL => [0xCB, 0x15]
  | .rlMemHL => [0xCB, 0x16]
  | .rlA => [0xCB, 0x17]
  | .rrB => [0xCB, 0x18]
  | .rrC => [0xCB, 0x19]
  | .rrD => [0xCB, 0x1A]
  | .rrE => [0xCB, 0x1B]
  | .rrH => [0xCB, 0x1C]
  | .rrL => [0xCB, 0x1D]
  | .rrMemHL => [0xCB, 0x1E]
  | .rrA => [0xCB, 0x1F]
  | .slaB => [0xCB, 0x20]
  | .slaC => [0xCB, 0x21]
  | .slaD => [0xCB, 0x22]
  | .slaE => [0xCB, 0x23]
  | .slaH => [0xCB, 0x24]
  | .slaL => [0xCB, 0x25]
  | .slaMemHL => [0xCB, 0x26]
  | .slaA => [0xCB, 0x27]
  | .sraB => [0xCB, 0x28]
  | .sraC => [0xCB, 0x29]
  | .sraD => [0xCB, 0x2A]
  | .sraE => [0xCB, 0x2B]
  | .sraH => [0xCB, 0x2C]
  | .sraL => [0xCB, 0x2D]
  | .sraMemHL => [0xCB, 0x2E]
  | .sraA => [0xCB, 0x2F]
  | .swapB => [0xCB, 0x30]
  | .swapC => [0xCB, 0x31]
  | .swapD => [0xCB, 0x32]
  | .swapE => [0xCB, 0x33]
  | .swapH => [0xCB, 0x34]
  | .swapL => [0xCB, 0x35]
  | .swapMemHL => [0xCB, 0x36]
  | .swapA => [0xCB, 0x37]
  | .srlB => [0xCB, 0x38]
  | .srlC => [0xCB, 0x39]
  | .srlD => [0xCB, 0x3A]
  | .srlE => [0xCB, 0x3B]
  | .srlH => [0xCB, 0x3C]
  | .srlL => [0xCB, 0x3D]
  | .srlMemHL => [0xCB, 0x3E]
  | .srlA => [0xCB, 0x3F]
  | .bit0_B => [0xCB, 0x40]
  | .bit0_C => [0xCB, 0x41]
  | .bit0_D => [0xCB, 0x42]
  | .bit0_E => [0xCB, 0x43]
  | .bit0_H => [0xCB, 0x44]
  | .bit0_L => [0xCB, 0x45]
  | .bit0_MemHL => [0xCB, 0x46]
  | .bit0_A => [0xCB, 0x47]
  | .bit1_B => [0xCB, 0x48]
  | .bit1_C => [0xCB, 0x49]
  | .bit1_D => [0xCB, 0x4A]
  | .bit1_E => [0xCB, 0x4B]
  | .bit1_H => [0xCB, 0x4C]
  | .bit1_L => [0xCB, 0x4D]
  | .bit1_MemHL => [0xCB, 0x4E]
  | .bit1_A => [0xCB, 0x4F]
  | .bit2_B => [0xCB, 0x50]
  | .bit2_C => [0xCB, 0x51]
  | .bit2_D => [0xCB, 0x52]
  | .bit2_E => [0xCB, 0x53]
  | .bit2_H => [0xCB, 0x54]
  | .bit2_L => [0xCB, 0x55]
  | .bit2_MemHL => [0xCB, 0x56]
  | .bit2_A => [0xCB, 0x57]
  | .bit3_B => [0xCB, 0x58]
  | .bit3_C => [0xCB, 0x59]
  | .bit3_D => [0xCB, 0x5A]
  | .bit3_E => [0xCB, 0x5B]
  | .bit3_H => [0xCB, 0x5C]
  | .bit3_L => [0xCB, 0x5D]
  | .bit3_MemHL => [0xCB, 0x5E]
  | .bit3_A => [0xCB, 0x5F]
  | .bit4_B => [0xCB, 0x60]
  | .bit4_C => [0xCB, 0x61]
  | .bit4_D => [0xCB, 0x62]
  | .bit4_E => [0xCB, 0x63]
  | .bit4_H => [0xCB, 0x64]
  | .bit4_L => [0xCB, 0x65]
  | .bit4_MemHL => [0xCB, 0x66]
  | .bit4_A => [0xCB, 0x67]
  | .bit5_B => [0xCB, 0x68]
  | .bit5_C => [0xCB, 0x69]
  | .bit5_D => [0xCB, 0x6A]
  | .bit5_E => [0xCB, 0x6B]
  | .bit5_H => [0xCB, 0x6C]
  | .bit5_L => [0xCB, 0x6D]
  | .bit5_MemHL => [0xCB, 0x6E]
  | .bit5_A => [0xCB, 0x6F]
  | .bit6_B => [0xCB, 0x70]
  | .bit6_C => [0xCB, 0x71]
  | .bit6_D => [0xCB, 0x72]
  | .bit6_E => [0xCB, 0x73]
  | .bit6_H => [0xCB, 0x74]
  | .bit6_L => [0xCB, 0x75]
  | .bit6_MemHL => [0xCB, 0x76]
  | .bit6_A => [0xCB, 0x77]
  | .bit7_B => [0xCB, 0x78]
  | .bit7_C => [0xCB, 0x79]
  | .bit7_D => [0xCB, 0x7A]
  | .bit7_E => [0xCB, 0x7B]
  | .bit7_H => [0xCB, 0x7C]
  | .bit7_L => [0xCB, 0x7D]
  | .bit7_MemHL => [0xCB, 0x7E]
  | .bit7_A => [0xCB, 0x7F]
  | .res0_B => [0xCB, 0x80]
  | .res0_C => [0xCB, 0x81]
  | .res0_D => [0xCB, 0x82]
  | .res0_E => [0xCB, 0x83]
  | .res0_H => [0xCB, 0x84]
  | .res0_L => [0xCB, 0x85]
  | .res0_MemHL => [0xCB, 0x86]
  | .res0_A => [0xCB, 0x87]
  | .res1_B => [0xCB, 0x88]
  | .res1_C => [0xCB, 0x89]
  | .res1_D => [0xCB, 0x8A]
  | .res1_E => [0xCB, 0x8B]
  | .res1_H => [0xCB, 0x8C]
  | .res1_L => [0xCB, 0x8D]
  | .res1_MemHL => [0xCB, 0x8E]
  | .res1_A => [0xCB, 0x8F]
  | .res2_B => [0xCB, 0x90]
  | .res2_C => [0xCB, 0x91]
  | .res2_D => [0xCB, 0x92]
  | .res2_E => [0xCB, 0x93]
  | .res2_H => [0xCB, 0x94]
  | .res2_L => [0xCB, 0x95]
  | .res2_MemHL => [0xCB, 0x96]
  | .res2_A => [0xCB, 0x97]
  | .res3_B => [0xCB, 0x98]
  | .res3_C => [0xCB, 0x99]
  | .res3_D => [0xCB, 0x9A]
  | .res3_E => [0xCB, 0x9B]
  | .res3_H => [0xCB, 0x9C]
  | .res3_L => [0xCB, 0x9D]
  | .res3_MemHL => [0xCB, 0x9E]
  | .res3_A => [0xCB, 0x9F]
  | .res4_B => [0xCB, 0xA0]
  | .res4_C => [0xCB, 0xA1]
  | .res4_D => [0xCB, 0xA2]
  | .res4_E => [0xCB, 0xA3]
  | .res4_H => [0xCB, 0xA4]
  | .res4_L => [0xCB, 0xA5]
  | .res4_MemHL => [0xCB, 0xA6]
  | .res4_A => [0xCB, 0xA7]
  | .res5_B => [0xCB, 0xA8]
  | .res5_C => [0xCB, 0xA9]
  | .res5_D => [0xCB, 0xAA]
  | .res5_E => [0xCB, 0xAB]
  | .res5_H => [0xCB, 0xAC]
  | .res5_L => [0xCB, 0xAD]
  | .res5_MemHL => [0xCB, 0xAE]
  | .res5_A => [0xCB, 0xAF]
  | .res6_B => [0xCB, 0xB0]
  | .res6_C => [0xCB, 0xB1]
  | .res6_D => [0xCB, 0xB2]
  | .res6_E => [0xCB, 0xB3]
  | .res6_H => [0xCB, 0xB4]
  | .res6_L => [0xCB, 0xB5]
  | .res6_MemHL => [0xCB, 0xB6]
  | .res6_A => [0xCB, 0xB7]
  | .res7_B => [0xCB, 0xB8]
  | .res7_C => [0xCB, 0xB9]
  | .res7_D => [0xCB, 0xBA]
  | .res7_E => [0xCB, 0xBB]
  | .res7_H => [0xCB, 0xBC]
  | .res7_L => [0xCB, 0xBD]
  | .res7_MemHL => [0xCB, 0xBE]
  | .res7_A => [0xCB, 0xBF]
  | .set0_B => [0xCB, 0xC0]
  | .set0_C => [0xCB, 0xC1]
  | .set0_D => [0xCB, 0xC2]
  | .set0_E => [0xCB, 0xC3]
  | .set0_H => [0xCB, 0xC4]
  | .set0_L => [0xCB, 0xC5]
  | .set0_MemHL => [0xCB, 0xC6]
  | .set0_A => [0xCB, 0xC7]
  | .set1_B => [0xCB, 0xC8]
  | .set1_C => [0xCB, 0xC9]
  | .set1_D => [0xCB, 0xCA]
  | .set1_E => [0xCB, 0xCB]
  | .set1_H => [0xCB, 0xCC]
  | .set1_L => [0xCB, 0xCD]
  | .set1_MemHL => [0xCB, 0xCE]
  | .set1_A => [0xCB, 0xCF]
  | .set2_B => [0xCB, 0xD0]
  | .set2_C => [0xCB, 0xD1]
  | .set2_D => [0xCB, 0xD2]
  | .set2_E => [0xCB, 0xD3]
  | .set2_H => [0xCB, 0xD4]
  | .set2_L => [0xCB, 0xD5]
  | .set2_MemHL => [0xCB, 0xD6]
  | .set2_A => [0xCB, 0xD7]
  | .set3_B => [0xCB, 0xD8]
  | .set3_C => [0xCB, 0xD9]
  | .set3_D => [0xCB, 0xDA]
  | .set3_E => [0xCB, 0xDB]
  | .set3_H => [0xCB, 0xDC]
  | .set3_L => [0xCB, 0xDD]
  | .set3_MemHL => [0xCB, 0xDE]
  | .set3_A => [0xCB, 0xDF]
  | .set4_B => [0xCB, 0xE0]
  | .set4_C => [0xCB, 0xE1]
  | .set4_D => [0xCB, 0xE2]
  | .set4_E => [0xCB, 0xE3]
  | .set4_H => [0xCB, 0xE4]
  | .set4_L => [0xCB, 0xE5]
  | .set4_MemHL => [0xCB, 0xE6]
  | .set4_A => [0xCB, 0xE7]
  | .set5_B => [0xCB, 0xE8]
  | .set5_C => [0xCB, 0xE9]
  | .set5_D => [0xCB, 0xEA]
  | .set5_E => [0xCB, 0xEB]
  | .set5_H => [0xCB, 0xEC]
  | .set5_L => [0xCB, 0xED]
  | .set5_MemHL => [0xCB, 0xEE]
  | .set5_A => [0xCB, 0xEF]
  | .set6_B => [0xCB, 0xF0]
  | .set6_C => [0xCB, 0xF1]
  | .set6_D => [0xCB, 0xF2]
  | .set6_E => [0xCB, 0xF3]
  | .set6_H => [0xCB, 0xF4]
  | .set6_L => [0xCB, 0xF5]
  | .set6_MemHL => [0xCB, 0xF6]
  | .set6_A => [0xCB, 0xF7]
  | .set7_B => [0xCB, 0xF8]
  | .set7_C => [0xCB, 0xF9]
  | .set7_D => [0xCB, 0xFA]
  | .set7_E => [0xCB, 0xFB]
  | .set7_H => [0xCB, 0xFC]
  | .set7_L => [0xCB, 0xFD]
  | .set7_MemHL => [0xCB, 0xFE]
  | .set7_A => [0xCB, 0xFF]

/-- The three bytes, in address order, of a row whose table bits are `w` (log 13): the table numbers a CB row as the
number 0xCB00 + s, the prefix above the secondary byte; every other word has its first byte in bits 7..0. Bits from
`nbits` up are 0. -/
def tableBytes (nbits w : Nat) : List Byte :=
  let v := w % 2 ^ nbits
  if nbits = 16 ∧ v / 256 = 0xCB then [0xCB, BitVec.ofNat 8 v, 0]
  else [BitVec.ofNat 8 v, BitVec.ofNat 8 (v / 256), BitVec.ofNat 8 (v / 65536)]

/-- The instruction the decoder reads from a table row's bits (the host's question). -/
def decodeTableWord (nbits w : Nat) : Option Instr :=
  match decode (tableBytes nbits w) with
  | .ok (i, _) => some i
  | .error _ => none

end Sys2Proof
end

