-- ==== Sys2Proof/Config.lean ====
section
/-! DEFINITION. What the spec leaves to the platform: the reset profile and its draws (R7, R500), the constants it
decides (R7), the byte an unwritten address reads as, and the free answers of a bus address that no plain memory backs
(R71). -/

namespace Sys2Proof.Config

/-- The register values a reset leaves (70_reset_and_hazards.md R500). -/
structure ResetRegisters where
  a : Byte
  f : Byte
  b : Byte
  c : Byte
  d : Byte
  e : Byte
  h : Byte
  l : Byte
  sp : Word
  pc : Word
  deriving DecidableEq, Repr

/-- The named parameter RESET_PROFILE (R7, R500, D6). -/
inductive ResetProfile where
  | unspecified
  | dmgPostBoot
  deriving DecidableEq, Repr

/-- R500: under `unspecified` A to L and SP are the draw (F[3:0] = 0 all the same) and PC is 0x0000; under
`dmg_post_boot` every register has the listed value. -/
def ResetProfile.registers (p : ResetProfile) (draw : ResetRegisters) : ResetRegisters :=
  match p with
  | .unspecified => { draw with f := draw.f &&& 0xF0, pc := 0x0000 }
  | .dmgPostBoot =>
    { a := 0x01, f := 0xB0, b := 0x00, c := 0x13, d := 0x00, e := 0xD8, h := 0x01, l := 0x4D,
      sp := 0xFFFE, pc := 0x0100 }

/-- DESIGN CHOICE (log 5): the machine after reset is the spec's default profile. -/
def resetProfile : ResetProfile := .unspecified

/-- DESIGN CHOICE, unsafe (log 6): the draw of profile `unspecified` that State.reset holds. -/
def resetDraw : ResetRegisters :=
  { a := 0, f := 0, b := 0, c := 0, d := 0, e := 0, h := 0, l := 0, sp := 0, pc := 0 }

/-- HALT_IDLE_CYCLES (R7, D12). -/
def haltIdleCycles : Nat := 4

/-- DESIGN CHOICE, unsafe for a run from reset (log 1): what an address that memory does not list reads as. -/
def unlistedByte : Byte := 0x00

/-- FREE VALUE (log 4): what the bus answers to the n-th access made to device addresses, when it is a read;
`none` is BusFault. R71: a read may return any value; R450: the bus alone decides which accesses fault. -/
opaque deviceRead : Nat → Option Byte

/-- FREE VALUE (log 4): whether the bus completes the n-th access made to device addresses, when it is a write. -/
opaque deviceAccepts : Nat → Bool

end Sys2Proof.Config
end

