-- ==== Sys2Proof/Machine/State.lean ====
section
/-! DEFINITION. The state of the core (10_state.md section 1), of the plain memory and the bus map behind its bus
(R70, R71), of the host's moves to come (R470) and of the core's outputs (R54, R71); the reasons a step can stop; the
state after reset. Plain data only. -/

namespace Sys2Proof.Machine

/-- The dispatch-loop state (R42). -/
inductive RunState where
  | running
  | halted
  deriving DecidableEq, Repr

/-- The three kinds of bus access a BusFault records (R450). -/
inductive AccessKind where
  | fetch
  | read
  | write
  deriving DecidableEq, Repr

/-- The record of a BusFault (R450): which kind of access the bus rejected, and its address. -/
structure BusFault where
  kind : AccessKind
  addr : Word
  deriving DecidableEq, Repr

/-- What backs an address (R71, R85): plain memory; memory that drops what is written to it ("store or drop the
value", R470); or a device, whose answers are free values (log 3, log 4). -/
inductive Backing where
  | memory
  | readOnly
  | device
  deriving DecidableEq, Repr

/-- One region of the bus map, first and last address inclusive, and whether the bus rejects the reads or the writes
made to it (R450). The map is the model's form of the open parameter BUS (R7; log 2, log 3). -/
structure Region where
  first : Word
  last : Word
  backing : Backing
  rejectsReads : Bool
  rejectsWrites : Bool
  deriving DecidableEq, Repr

/-- What the host can do at an instruction boundary (R470, R502): take a step with its two inputs (R140), invoke
interrupt entry with its vector (R460), or reset the core (R502). -/
inductive HostMove where
  | step (wake stopReq : Bool)
  | interruptEntry (vector : Word)
  | reset (profile : Config.ResetProfile) (draw : Config.ResetRegisters)
  deriving DecidableEq, Repr

/-- What the core sends out: each completed bus access, with the byte moved (R71, R72), and each cycle report
(R54). -/
inductive Event where
  | fetch (addr : Word) (value : Byte)
  | read (addr : Word) (value : Byte)
  | write (addr : Word) (value : Byte)
  | report (cycles : Nat)
  deriving DecidableEq, Repr

/-- Why a step answers with no next state although no instruction lacks a meaning. -/
inductive Fault where
  /-- Raised by the step when `fault` already holds a BusFault: the core takes no further step (R45, R451). Safe:
  the spec gives the core no state after this one. -/
  | busFault (record : BusFault)
  /-- Raised by the step when the host's stop request is present: the run is over at this boundary, with the state
  as the previous step left it (R55, R148). Safe: it is the end of the run, not an error of the core (log 9). -/
  | runEnded
  deriving DecidableEq, Repr

/-- Why a step is refused. -/
inductive Refusal where
  /-- Raised by exec's arm of an instruction that has no meaning yet. Safe. -/
  | notModelled (mnemonic : String)
  /-- Raised by the step when the host invokes interrupt entry against its precondition, a move it "is assumed never
  to make" (R460, R470). Safe (log 8). -/
  | hostMoveAgainstPrecondition
  deriving DecidableEq, Repr

/-- Everything the spec gives the machine (10_state.md section 1), then what stands behind its interfaces. -/
structure State where
  /-- The accumulator (R30). -/
  a : Byte
  /-- The flags: Z, N, H, C in bits 7, 6, 5, 4, bits 3 to 0 always zero (R32, R36). -/
  f : Byte
  b : Byte
  c : Byte
  d : Byte
  e : Byte
  h : Byte
  l : Byte
  /-- The stack pointer (R35). -/
  sp : Word
  /-- The program counter (R38). -/
  pc : Word
  /-- Interrupt master enable (R40). -/
  ime : Bool
  /-- An EI whose effect has not happened yet (R41). -/
  imePending : Bool
  /-- Running or Halted (R42). -/
  run : RunState
  /-- The cycle counter, unbounded (R43). -/
  cycles : Nat
  /-- The BusFault that ended the run, if any (R45). -/
  fault : Option BusFault
  /-- Plain memory behind the bus: (address, byte), addresses rising, no byte equal to what an unlisted one reads
  as (R70, R85). -/
  mem : List Host.Cell
  /-- How the platform backs the addresses; the first region that holds an address decides, and an address in none is
  plain memory (R7 BUS, R71). -/
  busMap : List Region
  /-- How many accesses to device addresses have been made, completed or rejected: the argument of the free answers
  (log 4). -/
  deviceAccesses : Nat
  /-- The host's moves to come, next first; when none is left the host takes plain steps (R140, R470; log 7). -/
  host : List HostMove
  /-- The bus accesses and cycle reports made, newest first (R54, R71; log 11). -/
  trace : List Event
  deriving DecidableEq, Repr

/-- The machine right after reset (R500, R501): the registers of the reset profile, interrupts disabled, Running, no
cycles, no fault; nothing listed in memory, an empty bus map, no host move pending, nothing sent. -/
def State.reset : State :=
  let r := Config.resetProfile.registers Config.resetDraw
  { a := r.a, f := r.f, b := r.b, c := r.c, d := r.d, e := r.e, h := r.h, l := r.l, sp := r.sp, pc := r.pc,
    ime := false, imePending := false, run := .running, cycles := 0, fault := none,
    mem := [], busMap := [], deviceAccesses := 0, host := [], trace := [] }

end Sys2Proof.Machine
end

