-- ==== Sys2Proof/Machine/Ops.lean ====
section
/-! DEFINITION. The named operations over registers, memory and the bus: the elementary updates of State, plain memory in
canonical form, the bus accesses and their fault (R11, R70 to R72, R450, R451), the stack primitives (R80, R81), the end
of an instruction (R144), interrupt entry and the return from it (R460, R461), and reset as an event (R502). -/

namespace Sys2Proof.Machine

/-- What a step or a meaning answers. -/
abbrev Result := Host.Outcome State Fault Refusal

/-! ### Plain memory (R70, R85) -/

/-- The byte at address `a`: the listed one, else what an unlisted address reads as (log 1). -/
def memGet : List Host.Cell → Nat → Byte
  | [], _ => Config.unlistedByte
  | (k, v) :: m, a => if a = k then v else memGet m a

/-- `m` without any entry for `a`. -/
def memErase : List Host.Cell → Nat → List Host.Cell
  | [], _ => []
  | (k, v) :: m, a => if a = k then memErase m a else (k, v) :: memErase m a

/-- `m` with the entry `(a, v)` before the first entry of a higher address. -/
def memInsert : List Host.Cell → Nat → Byte → List Host.Cell
  | [], a, v => [(a, v)]
  | (k, w) :: m, a, v => if a < k then (a, v) :: (k, w) :: m else (k, w) :: memInsert m a v

/-- `m` with byte `v` at address `a`, in canonical form: a byte equal to what an unlisted address reads as is not
listed. -/
def memSet (m : List Host.Cell) (a : Nat) (v : Byte) : List Host.Cell :=
  if v = Config.unlistedByte then memErase m a else memInsert (memErase m a) a v

/-- The canonical form from address `low` up: addresses strictly rising, inside the 65,536 of R70, and no entry equal
to what an unlisted address reads as. -/
def memWfFrom (low : Nat) : List Host.Cell → Bool
  | [] => true
  | (k, v) :: m => decide (low ≤ k) && decide (k < 65536) && decide (v ≠ Config.unlistedByte) && memWfFrom (k + 1) m

/-- The canonical form of memory. -/
def Memory.wf (m : List Host.Cell) : Bool := memWfFrom 0 m

/-! ### Elementary updates of State -/

/-- R143: PC moves past the `n` bytes of the instruction, modulo 2^16. -/
def State.advance (n : Nat) (s : State) : State := { s with pc := s.pc + BitVec.ofNat 16 n }

/-- `pc <- v` (R10). -/
def State.setPc (v : Word) (s : State) : State := { s with pc := v }

/-- `SP <- v` (R35). -/
def State.setSp (v : Word) (s : State) : State := { s with sp := v }

/-- R32: every write to F stores `v & 0xF0`. -/
def State.setF (v : Byte) (s : State) : State := { s with f := v &&& 0xF0 }

/-- Writes `ime` and `ime_pending` (R40, R41). -/
def State.setIme (enabled pending : Bool) (s : State) : State := { s with ime := enabled, imePending := pending }

/-- Writes `run` (R42). -/
def State.setRun (r : RunState) (s : State) : State := { s with run := r }

/-- Adds one output to the record of what the core sent (R54, R71). -/
def State.emit (e : Event) (s : State) : State := { s with trace := e :: s.trace }

/-- R144: adds the elapsed count to `cycles` and reports it. -/
def State.report (n : Nat) (s : State) : State :=
  { s with cycles := s.cycles + n, trace := .report n :: s.trace }

/-- R45, R451: records the BusFault; nothing else changes. -/
def State.raise (k : AccessKind) (a : Word) (s : State) : State := { s with fault := some ⟨k, a⟩ }

/-! ### The bus (R52, R70) -/

/-- How the platform backs address `a`: the first region that holds it, else plain memory that accepts every access
(log 2, log 3). -/
def State.region (s : State) (a : Word) : Region :=
  (s.busMap.find? fun r => decide (r.first ≤ a) && decide (a ≤ r.last)).getD
    { first := a, last := a, backing := .memory, rejectsReads := false, rejectsWrites := false }

/-- The byte plain memory holds at `a` (R85). -/
def State.byteAt (s : State) (a : Word) : Byte := memGet s.mem a.toNat

/-- What the bus answers to a read of `a`: a byte, or none for BusFault (R70, R470). -/
def State.readAnswer (s : State) (a : Word) : Option Byte :=
  if (s.region a).rejectsReads then none
  else match (s.region a).backing with
    | .memory => some (s.byteAt a)
    | .readOnly => some (s.byteAt a)
    | .device => Config.deviceRead s.deviceAccesses

/-- Whether the bus completes a write to `a`, or answers BusFault (R70, R470). -/
def State.writeAccepted (s : State) (a : Word) : Bool :=
  if (s.region a).rejectsWrites then false
  else match (s.region a).backing with
    | .memory => true
    | .readOnly => true
    | .device => Config.deviceAccepts s.deviceAccesses

/-- One more access to a device address, if `a` is one, whether the device completes it or rejects it: the next free
answer is a fresh one (log 4). -/
def State.countAccess (a : Word) (s : State) : State :=
  match (s.region a).backing with
  | .device => { s with deviceAccesses := s.deviceAccesses + 1 }
  | .memory => s
  | .readOnly => s

/-- A completed write: plain memory holds the byte, and any other address keeps nothing of it (R85, R470). -/
def State.store (a : Word) (v : Byte) (s : State) : State :=
  match (s.region a).backing with
  | .memory => { s with mem := memSet s.mem a.toNat v }
  | .readOnly => s
  | .device => s

/-- The output a completed read makes (R72). -/
def readEvent (k : AccessKind) (a : Word) (v : Byte) : Event :=
  match k with
  | .fetch => .fetch a v
  | .read => .read a v
  | .write => .write a v

/-- One bus read of kind `k`: on an answer the continuation runs, on BusFault the step ends here (R11, R150). A rejected
access of a device counts too, so that what the bus answers after a reset (R502) stays open (R7 BUS, R470; log 4). -/
def busRead (k : AccessKind) (a : Word) (s : State) (next : Byte → State → Result) : Result :=
  match s.readAnswer a with
  | none => .next ((s.countAccess a).raise k a)
  | some v => next v ((s.countAccess a).emit (readEvent k a v))

/-- `Fetch(addr)` (R11, R72). -/
def fetchByte (a : Word) (s : State) (next : Byte → State → Result) : Result := busRead .fetch a s next

/-- `MemRead(addr, 1)` (R11). -/
def memRead (a : Word) (s : State) (next : Byte → State → Result) : Result := busRead .read a s next

/-- `MemWrite(addr, 1, v)` (R11): on BusFault the step ends here, and writes already made stand (R451). A rejected access
of a device counts, as in busRead (log 4). -/
def memWrite (a : Word) (v : Byte) (s : State) (next : State → Result) : Result :=
  if s.writeAccepted a then next (((s.store a v).countAccess a).emit (.write a v))
  else .next ((s.countAccess a).raise .write a)

/-- The end of an instruction that met no fault: its elapsed cycles are added and reported (R144). -/
def complete (n : Nat) (s : State) : Result := .next (s.report n)

/-! ### The stack (R80, R81) -/

/-- `Push16(v)` (R80). -/
def push16 (v : Word) (s : State) (next : State → Result) : Result :=
  let s1 := s.setSp (s.sp - 1)
  memWrite s1.sp (hiByte v) s1 fun s2 =>
    let s3 := s2.setSp (s2.sp - 1)
    memWrite s3.sp (loByte v) s3 next

/-- `Pop16()` (R81). -/
def pop16 (s : State) (next : Word → State → Result) : Result :=
  memRead s.sp s fun lo s1 =>
    let s2 := s1.setSp (s1.sp + 1)
    memRead s2.sp s2 fun hi s3 => next (wordOfBytes hi lo) (s3.setSp (s3.sp + 1))

/-! ### Interrupt entry and return -/

/-- R460: when the host may invoke interrupt entry. -/
def State.entryAllowed (s : State) : Bool :=
  decide (s.fault = none) && decide (s.run = .running) && s.ime

/-- Taking an interrupt, the one trap entry of the core (R460): interrupts off, PC pushed, PC at the vector, 20
cycles. -/
def interruptEntry (v : Word) (s : State) : Result :=
  push16 s.pc (s.setIme false false) fun s1 => complete 20 (s1.setPc v)

/-- The trap return, what RETI does after its PC advance (R389, R461): PC popped, interrupts on at once, 16 cycles. -/
def returnFromInterrupt (s : State) : Result :=
  pop16 s fun v s1 => complete 16 ((s1.setPc v).setIme true false)

/-! ### Reset as an event -/

/-- R502: reset writes every element of the core's state at once (R500, R501), and changes nothing behind the bus; it
makes no access and no report. The bus map and the count of device accesses stay, both the model's: an address goes on
as the map says (log 3), and a device's next answer is a fresh free value (log 4). -/
def State.resetTo (p : Config.ResetProfile) (draw : Config.ResetRegisters) (s : State) : State :=
  let r := p.registers draw
  { s with
    a := r.a, f := r.f, b := r.b, c := r.c, d := r.d, e := r.e, h := r.h, l := r.l, sp := r.sp, pc := r.pc,
    ime := false, imePending := false, run := .running, cycles := 0, fault := none }

end Sys2Proof.Machine
end

