-- ==== Sys2Proof/Machine/Operands.lean ====
section
/-! DEFINITION. The operand forms: 8-bit registers, register pairs and their views, conditions, displacements and the
high page (R10, R33 to R35, R103 to R107). -/

namespace Sys2Proof.Machine

/-- `x[r]` for an 8-bit register operand (R10, R103). -/
def State.reg8 (s : State) : Reg8 → Byte
  | .b => s.b
  | .c => s.c
  | .d => s.d
  | .e => s.e
  | .h => s.h
  | .l => s.l
  | .a => s.a

/-- `x[r] <- v` (R10, R103). -/
def State.setReg8 (r : Reg8) (v : Byte) (s : State) : State :=
  match r with
  | .b => { s with b := v }
  | .c => { s with c := v }
  | .d => { s with d := v }
  | .e => { s with e := v }
  | .h => { s with h := v }
  | .l => { s with l := v }
  | .a => { s with a := v }

/-- `x[rr]` for rr in BC, DE, HL, SP (R33, R35, R104). -/
def State.pair (s : State) : Pair → Word
  | .bc => wordOfBytes s.b s.c
  | .de => wordOfBytes s.d s.e
  | .hl => wordOfBytes s.h s.l
  | .sp => s.sp

/-- `x[rr] <- v` for rr in BC, DE, HL, SP: both bytes at once (R33, R35, R104). -/
def State.setPair (rr : Pair) (v : Word) (s : State) : State :=
  match rr with
  | .bc => { s with b := hiByte v, c := loByte v }
  | .de => { s with d := hiByte v, e := loByte v }
  | .hl => { s with h := hiByte v, l := loByte v }
  | .sp => { s with sp := v }

/-- `x[rr]` for rr in BC, DE, HL, AF (R33, R105). -/
def State.stackPair (s : State) : StackPair → Word
  | .bc => wordOfBytes s.b s.c
  | .de => wordOfBytes s.d s.e
  | .hl => wordOfBytes s.h s.l
  | .af => wordOfBytes s.a s.f

/-- `x[rr] <- v` for rr in BC, DE, HL, AF; the write to AF masks its low byte (R33, R34, R105). -/
def State.setStackPair (rr : StackPair) (v : Word) (s : State) : State :=
  match rr with
  | .bc => s.setPair .bc v
  | .de => s.setPair .de v
  | .hl => s.setPair .hl v
  | .af => { s with a := hiByte v }.setF (loByte v)

/-- HL, the address of the (HL) operand (R103). -/
def State.hl (s : State) : Word := s.pair .hl

/-- `F.Z` (R36). -/
def State.flagZ (s : State) : Bool := s.f.getLsbD 7

/-- `F.N` (R36). -/
def State.flagN (s : State) : Bool := s.f.getLsbD 6

/-- `F.H` (R36). -/
def State.flagH (s : State) : Bool := s.f.getLsbD 5

/-- `F.C` (R36). -/
def State.flagC (s : State) : Bool := s.f.getLsbD 4

/-- `cond(cc)` (R106). -/
def State.cond (s : State) : Cond → Bool
  | .nz => !s.flagZ
  | .z => s.flagZ
  | .nc => !s.flagC
  | .c => s.flagC

/-- `sext_16(e)`, the value of an r8 displacement in address arithmetic (R9, R107). -/
def sext16 (e : Byte) : Word := e.signExtend 16

/-- `0xFF00 + n`, the address of the a8 and (C) operands (R107). -/
def highPage (n : Byte) : Word := 0xFF00 + n.setWidth 16

/-- The fixed vector `t * 8` of RST (R107, R390). -/
def restartVector (t : Fin 8) : Word := BitVec.ofNat 16 (t.val * 8)

end Sys2Proof.Machine
end

