-- ==== Sys2Proof/Machine/Flags.lean ====
section
/-! DEFINITION. The flag register's writes (R36) and every computation that gives a result with flags: the ALU functions
(R250 to R257), increment and decrement (R285, R287), DAA (R289), 16-bit addition (R310), SP plus displacement (R236,
R313), rotates and shifts (R330 to R354). Flags are comparisons between unsigned numbers (R9). -/

namespace Sys2Proof.Machine

/-- F with the four flags in bits 7..4 and zero below (R32, R36). -/
def flagByte (z n h c : Bool) : Byte :=
  BitVec.ofBool z ++ BitVec.ofBool n ++ BitVec.ofBool h ++ BitVec.ofBool c ++ (0 : BitVec 4)

/-- Writes all four flags (R36). A flag an instruction does not write is passed its old value. -/
def State.setFlags (z n h c : Bool) (s : State) : State := { s with f := flagByte z n h c }

/-- A result byte with the four flags it gives. -/
structure Alu where
  result : Byte
  z : Bool
  n : Bool
  h : Bool
  c : Bool
  deriving DecidableEq, Repr

/-- The low nibble `v & 0x0F`, as a number. -/
def lowNibble (v : Byte) : Nat := (v &&& 0x0F).toNat

/-- `Add8(a, b)` (R250). -/
def add8 (a b : Byte) : Alu :=
  { result := a + b, z := decide (a + b = 0), n := false,
    h := decide (lowNibble a + lowNibble b > 0x0F), c := decide (a.toNat + b.toNat > 0xFF) }

/-- `Adc8(a, b, c)` (R251). -/
def adc8 (a b : Byte) (cin : Bool) : Alu :=
  let r := a + b + BitVec.ofNat 8 cin.toNat
  { result := r, z := decide (r = 0), n := false,
    h := decide (lowNibble a + lowNibble b + cin.toNat > 0x0F),
    c := decide (a.toNat + b.toNat + cin.toNat > 0xFF) }

/-- `Sub8(a, b)`: H and C are borrows (R252). -/
def sub8 (a b : Byte) : Alu :=
  { result := a - b, z := decide (a - b = 0), n := true,
    h := decide (lowNibble a < lowNibble b), c := decide (a.toNat < b.toNat) }

/-- `Sbc8(a, b, c)` (R253). -/
def sbc8 (a b : Byte) (cin : Bool) : Alu :=
  let r := a - b - BitVec.ofNat 8 cin.toNat
  { result := r, z := decide (r = 0), n := true,
    h := decide (lowNibble a < lowNibble b + cin.toNat), c := decide (a.toNat < b.toNat + cin.toNat) }

/-- `And8(a, b)` (R254). -/
def and8 (a b : Byte) : Alu :=
  { result := a &&& b, z := decide (a &&& b = 0), n := false, h := true, c := false }

/-- `Xor8(a, b)` (R255). -/
def xor8 (a b : Byte) : Alu :=
  { result := a ^^^ b, z := decide (a ^^^ b = 0), n := false, h := false, c := false }

/-- `Or8(a, b)` (R256). -/
def or8 (a b : Byte) : Alu :=
  { result := a ||| b, z := decide (a ||| b = 0), n := false, h := false, c := false }

/-- `Cp8(a, b)`: the flags of `Sub8`, A as it was (R257). -/
def cp8 (a b : Byte) : Alu := { sub8 a b with result := a }

/-- The function the operation field of an ALU row selects (R258); `cin` is F.C. -/
def alu8 (op : AluOp) (a b : Byte) (cin : Bool) : Alu :=
  match op with
  | .add => add8 a b
  | .adc => adc8 a b cin
  | .sub => sub8 a b
  | .sbc => sbc8 a b cin
  | .and => and8 a b
  | .xor => xor8 a b
  | .or => or8 a b
  | .cp => cp8 a b

/-- The result and flags of INC on `v`; C is the old one, which INC does not write (R285). -/
def inc8 (v : Byte) (oldC : Bool) : Alu :=
  { result := v + 1, z := decide (v + 1 = 0), n := false, h := decide (lowNibble v = 0x0F), c := oldC }

/-- The result and flags of DEC on `v`; C is the old one, which DEC does not write (R287). -/
def dec8 (v : Byte) (oldC : Bool) : Alu :=
  { result := v - 1, z := decide (v - 1 = 0), n := true, h := decide (lowNibble v = 0x00), c := oldC }

/-- DAA (R289): `a` is A, and `n`, `h`, `c` the flags it reads. The adjustment is computed as a number and wrapped at
the end; N is not written, H is cleared. -/
def daa8 (a : Byte) (n h c : Bool) : Alu :=
  let r : Byte × Bool :=
    if n then
      (a - (if c then 0x60 else 0) - (if h then 0x06 else 0), c)
    else
      let carry := c || decide (a.toNat > 0x99)
      (a + (if carry then 0x60 else 0) + (if h || decide (lowNibble a > 0x09) then 0x06 else 0), carry)
  { result := r.1, z := decide (r.1 = 0), n := n, h := false, c := r.2 }

/-- H of `ADD HL,rr`: the carry out of bit 11 (R310). -/
def add16H (h v : Word) : Bool := decide ((h &&& 0x0FFF).toNat + (v &&& 0x0FFF).toNat > 0x0FFF)

/-- C of `ADD HL,rr`: the carry out of bit 15 (R310). -/
def add16C (h v : Word) : Bool := decide (h.toNat + v.toNat > 0xFFFF)

/-- H of SP plus displacement: the unsigned sum of the low nibbles (R236, R313). -/
def spOffsetH (sp : Word) (e : Byte) : Bool := decide ((sp &&& 0x0F).toNat + lowNibble e > 0x0F)

/-- C of SP plus displacement: the unsigned sum of SP's low byte and the byte `e` (R236, R313). -/
def spOffsetC (sp : Word) (e : Byte) : Bool := decide ((sp &&& 0xFF).toNat + e.toNat > 0xFF)

/-- A flag as the byte 0 or 1, as the rotates use it (R9). -/
def bitByte (b : Bool) : Byte := if b then 1 else 0

/-- The function `Op(v) -> (result, cout)` of a rotate or shift; `cin` is the old F.C (R340 to R354). -/
def rotate8 (op : RotOp) (v : Byte) (cin : Bool) : Byte × Bool :=
  match op with
  | .rlc => ((v <<< 1) ||| bitByte (v.getLsbD 7), v.getLsbD 7)
  | .rrc => ((v >>> 1) ||| (bitByte (v.getLsbD 0) <<< 7), v.getLsbD 0)
  | .rl => ((v <<< 1) ||| bitByte cin, v.getLsbD 7)
  | .rr => ((v >>> 1) ||| (bitByte cin <<< 7), v.getLsbD 0)
  | .sla => (v <<< 1, v.getLsbD 7)
  | .sra => ((v >>> 1) ||| (v &&& 0x80), v.getLsbD 0)
  | .swap => ((v <<< 4) ||| (v >>> 4), false)
  | .srl => (v >>> 1, v.getLsbD 0)

/-- `1 << b` as a byte (R358, R360). -/
def bitMask (b : Fin 8) : Byte := (1 : Byte) <<< b.val

/-- Writes the flags an Alu gives (R261). -/
def State.setAluFlags (r : Alu) (s : State) : State := s.setFlags r.z r.n r.h r.c

end Sys2Proof.Machine
end

