-- ==== Sys2Proof/Machine/Alu16.lean ====
section
/-! DEFINITION. 16-bit arithmetic (44_alu16.md R310 to R313). -/

namespace Sys2Proof.Machine

/-- `ADD HL,rr`: Z kept (R310). -/
def addHlPair (rr : Pair) (s : State) : Result :=
  complete 8 (((s.advance 1).setPair .hl (s.hl + s.pair rr)).setFlags s.flagZ false
    (add16H s.hl (s.pair rr)) (add16C s.hl (s.pair rr)))

/-- `INC rr`: no flag (R311). -/
def incPair (rr : Pair) (s : State) : Result :=
  complete 8 ((s.advance 1).setPair rr (s.pair rr + 1))

/-- `DEC rr`: no flag (R312). -/
def decPair (rr : Pair) (s : State) : Result :=
  complete 8 ((s.advance 1).setPair rr (s.pair rr - 1))

/-- `ADD SP,r8` (R313). -/
def addSpOffset (e : Byte) (s : State) : Result :=
  complete 16 (((s.advance 2).setSp (s.sp + sext16 e)).setFlags false false (spOffsetH s.sp e) (spOffsetC s.sp e))

/-- `INC BC` (R311). -/
def execIncBC (s : State) : Result := incPair .bc s

/-- `ADD HL,BC` (R310). -/
def execAddHL_BC (s : State) : Result := addHlPair .bc s

/-- `DEC BC` (R312). -/
def execDecBC (s : State) : Result := decPair .bc s

/-- `INC DE` (R311). -/
def execIncDE (s : State) : Result := incPair .de s

/-- `ADD HL,DE` (R310). -/
def execAddHL_DE (s : State) : Result := addHlPair .de s

/-- `DEC DE` (R312). -/
def execDecDE (s : State) : Result := decPair .de s

/-- `INC HL` (R311). -/
def execIncHL (s : State) : Result := incPair .hl s

/-- `ADD HL,HL` (R310). -/
def execAddHL_HL (s : State) : Result := addHlPair .hl s

/-- `DEC HL` (R312). -/
def execDecHL (s : State) : Result := decPair .hl s

/-- `INC SP` (R311). -/
def execIncSP (s : State) : Result := incPair .sp s

/-- `ADD HL,SP` (R310). -/
def execAddHL_SP (s : State) : Result := addHlPair .sp s

/-- `DEC SP` (R312). -/
def execDecSP (s : State) : Result := decPair .sp s

/-- `ADD SP,r8` (R313). -/
def execAddSP_r8 (n : Byte) (s : State) : Result := addSpOffset n s

end Sys2Proof.Machine
end

