-- ==== Sys2Proof/Machine/Alu8.lean ====
section
/-! DEFINITION. 8-bit arithmetic and logic (43_alu8.md R250 to R292). -/

namespace Sys2Proof.Machine

/-- Writes the result of an ALU operation to A and its flags to F (R261). -/
def State.setAlu (r : Alu) (s : State) : State := (s.setReg8 .a r.result).setAluFlags r

/-- The `r` form of an ALU row (R258). -/
def aluReg (op : AluOp) (r : Reg8) (s : State) : Result :=
  complete 4 ((s.advance 1).setAlu (alu8 op s.a (s.reg8 r) s.flagC))

/-- The `(HL)` form of an ALU row: one read (R258). -/
def aluMem (op : AluOp) (s : State) : Result :=
  memRead s.hl (s.advance 1) fun v s1 => complete 8 (s1.setAlu (alu8 op s.a v s.flagC))

/-- The `d8` form of an ALU row (R258). -/
def aluImm (op : AluOp) (n : Byte) (s : State) : Result :=
  complete 8 ((s.advance 2).setAlu (alu8 op s.a n s.flagC))

/-- `INC r` (R285). -/
def incReg (r : Reg8) (s : State) : Result :=
  let x := inc8 (s.reg8 r) s.flagC
  complete 4 (((s.advance 1).setReg8 r x.result).setAluFlags x)

/-- `INC (HL)`: a read, then a write; the flags only after the write (R286). -/
def incMem (s : State) : Result :=
  memRead s.hl (s.advance 1) fun v s1 =>
    let x := inc8 v s.flagC
    memWrite s.hl x.result s1 fun s2 => complete 12 (s2.setAluFlags x)

/-- `DEC r` (R287). -/
def decReg (r : Reg8) (s : State) : Result :=
  let x := dec8 (s.reg8 r) s.flagC
  complete 4 (((s.advance 1).setReg8 r x.result).setAluFlags x)

/-- `DEC (HL)`: a read, then a write; the flags only after the write (R288). -/
def decMem (s : State) : Result :=
  memRead s.hl (s.advance 1) fun v s1 =>
    let x := dec8 v s.flagC
    memWrite s.hl x.result s1 fun s2 => complete 12 (s2.setAluFlags x)

/-- `DAA` (R289). -/
def adjustDecimal (s : State) : Result :=
  complete 4 ((s.advance 1).setAlu (daa8 s.a s.flagN s.flagH s.flagC))

/-- `CPL`: Z and C kept (R290). -/
def complementA (s : State) : Result :=
  complete 4 (((s.advance 1).setReg8 .a (s.a ^^^ 0xFF)).setFlags s.flagZ true true s.flagC)

/-- `SCF`: Z kept (R291). -/
def setCarry (s : State) : Result :=
  complete 4 ((s.advance 1).setFlags s.flagZ false false true)

/-- `CCF`: Z kept (R292). -/
def complementCarry (s : State) : Result :=
  complete 4 ((s.advance 1).setFlags s.flagZ false false (!s.flagC))

/-- `INC B` (R285). -/
def execIncB (s : State) : Result := incReg .b s

/-- `DEC B` (R287). -/
def execDecB (s : State) : Result := decReg .b s

/-- `INC C` (R285). -/
def execIncC (s : State) : Result := incReg .c s

/-- `DEC C` (R287). -/
def execDecC (s : State) : Result := decReg .c s

/-- `INC D` (R285). -/
def execIncD (s : State) : Result := incReg .d s

/-- `DEC D` (R287). -/
def execDecD (s : State) : Result := decReg .d s

/-- `INC E` (R285). -/
def execIncE (s : State) : Result := incReg .e s

/-- `DEC E` (R287). -/
def execDecE (s : State) : Result := decReg .e s

/-- `INC H` (R285). -/
def execIncH (s : State) : Result := incReg .h s

/-- `DEC H` (R287). -/
def execDecH (s : State) : Result := decReg .h s

/-- `DAA` (R289). -/
def execDaa (s : State) : Result := adjustDecimal s

/-- `INC L` (R285). -/
def execIncL (s : State) : Result := incReg .l s

/-- `DEC L` (R287). -/
def execDecL (s : State) : Result := decReg .l s

/-- `CPL` (R290). -/
def execCpl (s : State) : Result := complementA s

/-- `INC (HL)` (R286). -/
def execIncMemHL (s : State) : Result := incMem s

/-- `DEC (HL)` (R288). -/
def execDecMemHL (s : State) : Result := decMem s

/-- `SCF` (R291). -/
def execScf (s : State) : Result := setCarry s

/-- `INC A` (R285). -/
def execIncA (s : State) : Result := incReg .a s

/-- `DEC A` (R287). -/
def execDecA (s : State) : Result := decReg .a s

/-- `CCF` (R292). -/
def execCcf (s : State) : Result := complementCarry s

/-- `ADD A,B` (R261). -/
def execAddA_B (s : State) : Result := aluReg .add .b s

/-- `ADD A,C` (R261). -/
def execAddA_C (s : State) : Result := aluReg .add .c s

/-- `ADD A,D` (R261). -/
def execAddA_D (s : State) : Result := aluReg .add .d s

/-- `ADD A,E` (R261). -/
def execAddA_E (s : State) : Result := aluReg .add .e s

/-- `ADD A,H` (R261). -/
def execAddA_H (s : State) : Result := aluReg .add .h s

/-- `ADD A,L` (R261). -/
def execAddA_L (s : State) : Result := aluReg .add .l s

/-- `ADD A,(HL)` (R262). -/
def execAddA_MemHL (s : State) : Result := aluMem .add s

/-- `ADD A,A` (R261). -/
def execAddA_A (s : State) : Result := aluReg .add .a s

/-- `ADC A,B` (R264). -/
def execAdcA_B (s : State) : Result := aluReg .adc .b s

/-- `ADC A,C` (R264). -/
def execAdcA_C (s : State) : Result := aluReg .adc .c s

/-- `ADC A,D` (R264). -/
def execAdcA_D (s : State) : Result := aluReg .adc .d s

/-- `ADC A,E` (R264). -/
def execAdcA_E (s : State) : Result := aluReg .adc .e s

/-- `ADC A,H` (R264). -/
def execAdcA_H (s : State) : Result := aluReg .adc .h s

/-- `ADC A,L` (R264). -/
def execAdcA_L (s : State) : Result := aluReg .adc .l s

/-- `ADC A,(HL)` (R265). -/
def execAdcA_MemHL (s : State) : Result := aluMem .adc s

/-- `ADC A,A` (R264). -/
def execAdcA_A (s : State) : Result := aluReg .adc .a s

/-- `SUB B` (R267). -/
def execSubB (s : State) : Result := aluReg .sub .b s

/-- `SUB C` (R267). -/
def execSubC (s : State) : Result := aluReg .sub .c s

/-- `SUB D` (R267). -/
def execSubD (s : State) : Result := aluReg .sub .d s

/-- `SUB E` (R267). -/
def execSubE (s : State) : Result := aluReg .sub .e s

/-- `SUB H` (R267). -/
def execSubH (s : State) : Result := aluReg .sub .h s

/-- `SUB L` (R267). -/
def execSubL (s : State) : Result := aluReg .sub .l s

/-- `SUB (HL)` (R268). -/
def execSubMemHL (s : State) : Result := aluMem .sub s

/-- `SUB A` (R267). -/
def execSubA (s : State) : Result := aluReg .sub .a s

/-- `SBC A,B` (R270). -/
def execSbcA_B (s : State) : Result := aluReg .sbc .b s

/-- `SBC A,C` (R270). -/
def execSbcA_C (s : State) : Result := aluReg .sbc .c s

/-- `SBC A,D` (R270). -/
def execSbcA_D (s : State) : Result := aluReg .sbc .d s

/-- `SBC A,E` (R270). -/
def execSbcA_E (s : State) : Result := aluReg .sbc .e s

/-- `SBC A,H` (R270). -/
def execSbcA_H (s : State) : Result := aluReg .sbc .h s

/-- `SBC A,L` (R270). -/
def execSbcA_L (s : State) : Result := aluReg .sbc .l s

/-- `SBC A,(HL)` (R271). -/
def execSbcA_MemHL (s : State) : Result := aluMem .sbc s

/-- `SBC A,A` (R270). -/
def execSbcA_A (s : State) : Result := aluReg .sbc .a s

/-- `AND B` (R273). -/
def execAndB (s : State) : Result := aluReg .and .b s

/-- `AND C` (R273). -/
def execAndC (s : State) : Result := aluReg .and .c s

/-- `AND D` (R273). -/
def execAndD (s : State) : Result := aluReg .and .d s

/-- `AND E` (R273). -/
def execAndE (s : State) : Result := aluReg .and .e s

/-- `AND H` (R273). -/
def execAndH (s : State) : Result := aluReg .and .h s

/-- `AND L` (R273). -/
def execAndL (s : State) : Result := aluReg .and .l s

/-- `AND (HL)` (R274). -/
def execAndMemHL (s : State) : Result := aluMem .and s

/-- `AND A` (R273). -/
def execAndA (s : State) : Result := aluReg .and .a s

/-- `XOR B` (R276). -/
def execXorB (s : State) : Result := aluReg .xor .b s

/-- `XOR C` (R276). -/
def execXorC (s : State) : Result := aluReg .xor .c s

/-- `XOR D` (R276). -/
def execXorD (s : State) : Result := aluReg .xor .d s

/-- `XOR E` (R276). -/
def execXorE (s : State) : Result := aluReg .xor .e s

/-- `XOR H` (R276). -/
def execXorH (s : State) : Result := aluReg .xor .h s

/-- `XOR L` (R276). -/
def execXorL (s : State) : Result := aluReg .xor .l s

/-- `XOR (HL)` (R277). -/
def execXorMemHL (s : State) : Result := aluMem .xor s

/-- `XOR A` (R276). -/
def execXorA (s : State) : Result := aluReg .xor .a s

/-- `OR B` (R279). -/
def execOrB (s : State) : Result := aluReg .or .b s

/-- `OR C` (R279). -/
def execOrC (s : State) : Result := aluReg .or .c s

/-- `OR D` (R279). -/
def execOrD (s : State) : Result := aluReg .or .d s

/-- `OR E` (R279). -/
def execOrE (s : State) : Result := aluReg .or .e s

/-- `OR H` (R279). -/
def execOrH (s : State) : Result := aluReg .or .h s

/-- `OR L` (R279). -/
def execOrL (s : State) : Result := aluReg .or .l s

/-- `OR (HL)` (R280). -/
def execOrMemHL (s : State) : Result := aluMem .or s

/-- `OR A` (R279). -/
def execOrA (s : State) : Result := aluReg .or .a s

/-- `CP B` (R282). -/
def execCpB (s : State) : Result := aluReg .cp .b s

/-- `CP C` (R282). -/
def execCpC (s : State) : Result := aluReg .cp .c s

/-- `CP D` (R282). -/
def execCpD (s : State) : Result := aluReg .cp .d s

/-- `CP E` (R282). -/
def execCpE (s : State) : Result := aluReg .cp .e s

/-- `CP H` (R282). -/
def execCpH (s : State) : Result := aluReg .cp .h s

/-- `CP L` (R282). -/
def execCpL (s : State) : Result := aluReg .cp .l s

/-- `CP (HL)` (R283). -/
def execCpMemHL (s : State) : Result := aluMem .cp s

/-- `CP A` (R282). -/
def execCpA (s : State) : Result := aluReg .cp .a s

/-- `ADD A,d8` (R263). -/
def execAddA_d8 (n : Byte) (s : State) : Result := aluImm .add n s

/-- `ADC A,d8` (R266). -/
def execAdcA_d8 (n : Byte) (s : State) : Result := aluImm .adc n s

/-- `SUB d8` (R269). -/
def execSubD8 (n : Byte) (s : State) : Result := aluImm .sub n s

/-- `SBC A,d8` (R272). -/
def execSbcA_d8 (n : Byte) (s : State) : Result := aluImm .sbc n s

/-- `AND d8` (R275). -/
def execAndD8 (n : Byte) (s : State) : Result := aluImm .and n s

/-- `XOR d8` (R278). -/
def execXorD8 (n : Byte) (s : State) : Result := aluImm .xor n s

/-- `OR d8` (R281). -/
def execOrD8 (n : Byte) (s : State) : Result := aluImm .or n s

/-- `CP d8` (R284). -/
def execCpD8 (n : Byte) (s : State) : Result := aluImm .cp n s

end Sys2Proof.Machine
end

