-- ==== Sys2Proof/Machine/Control.lean ====
section
/-! DEFINITION. Control flow (46_control.md R380 to R390). A conditional form charges its branch-taken count when the
condition holds and its base count otherwise (R144). -/

namespace Sys2Proof.Machine

/-- `JP a16` (R380). -/
def jumpAbs (n : Word) (s : State) : Result :=
  complete 16 ((s.advance 3).setPc n)

/-- `JP cc,a16` (R381). -/
def jumpAbsIf (cc : Cond) (n : Word) (s : State) : Result :=
  if s.cond cc then complete 16 ((s.advance 3).setPc n) else complete 12 (s.advance 3)

/-- `JP HL` (R382). -/
def jumpHl (s : State) : Result :=
  complete 4 ((s.advance 1).setPc s.hl)

/-- The target of a relative jump: the post-fetch PC plus the displacement (R383). -/
def State.relTarget (e : Byte) (s : State) : Word := (s.advance 2).pc + sext16 e

/-- `JR r8` (R383). -/
def jumpRel (e : Byte) (s : State) : Result :=
  complete 12 ((s.advance 2).setPc (s.relTarget e))

/-- `JR cc,r8` (R384). -/
def jumpRelIf (cc : Cond) (e : Byte) (s : State) : Result :=
  if s.cond cc then complete 12 ((s.advance 2).setPc (s.relTarget e)) else complete 8 (s.advance 2)

/-- Pushes the post-fetch PC of an instruction of `len` bytes and goes to `target` (R385, R386, R390). -/
def callTo (target : Word) (len cyc : Nat) (s : State) : Result :=
  push16 (s.advance len).pc (s.advance len) fun s1 => complete cyc (s1.setPc target)

/-- `CALL cc,a16` (R386). -/
def callIf (cc : Cond) (n : Word) (s : State) : Result :=
  if s.cond cc then callTo n 3 24 s else complete 12 (s.advance 3)

/-- Pops PC, in `cyc` cycles (R387, R388). -/
def returnIn (cyc : Nat) (s : State) : Result :=
  pop16 (s.advance 1) fun v s1 => complete cyc (s1.setPc v)

/-- `RET cc` (R388). -/
def returnIf (cc : Cond) (s : State) : Result :=
  if s.cond cc then returnIn 20 s else complete 8 (s.advance 1)

/-- `JR r8` (R383). -/
def execJrR8 (n : Byte) (s : State) : Result := jumpRel n s

/-- `JR NZ,r8` (R384). -/
def execJrNZ_r8 (n : Byte) (s : State) : Result := jumpRelIf .nz n s

/-- `JR Z,r8` (R384). -/
def execJrZ_r8 (n : Byte) (s : State) : Result := jumpRelIf .z n s

/-- `JR NC,r8` (R384). -/
def execJrNC_r8 (n : Byte) (s : State) : Result := jumpRelIf .nc n s

/-- `JR C,r8` (R384). -/
def execJrC_r8 (n : Byte) (s : State) : Result := jumpRelIf .c n s

/-- `RET NZ` (R388). -/
def execRetNZ (s : State) : Result := returnIf .nz s

/-- `JP NZ,a16` (R381). -/
def execJpNZ_a16 (n : Word) (s : State) : Result := jumpAbsIf .nz n s

/-- `JP a16` (R380). -/
def execJpA16 (n : Word) (s : State) : Result := jumpAbs n s

/-- `CALL NZ,a16` (R386). -/
def execCallNZ_a16 (n : Word) (s : State) : Result := callIf .nz n s

/-- `RST 00H` (R390). -/
def execRst00 (s : State) : Result := callTo (restartVector 0) 1 16 s

/-- `RET Z` (R388). -/
def execRetZ (s : State) : Result := returnIf .z s

/-- `RET` (R387). -/
def execRet (s : State) : Result := returnIn 16 s

/-- `JP Z,a16` (R381). -/
def execJpZ_a16 (n : Word) (s : State) : Result := jumpAbsIf .z n s

/-- `CALL Z,a16` (R386). -/
def execCallZ_a16 (n : Word) (s : State) : Result := callIf .z n s

/-- `CALL a16` (R385). -/
def execCallA16 (n : Word) (s : State) : Result := callTo n 3 24 s

/-- `RST 08H` (R390). -/
def execRst08 (s : State) : Result := callTo (restartVector 1) 1 16 s

/-- `RET NC` (R388). -/
def execRetNC (s : State) : Result := returnIf .nc s

/-- `JP NC,a16` (R381). -/
def execJpNC_a16 (n : Word) (s : State) : Result := jumpAbsIf .nc n s

/-- `CALL NC,a16` (R386). -/
def execCallNC_a16 (n : Word) (s : State) : Result := callIf .nc n s

/-- `RST 10H` (R390). -/
def execRst10 (s : State) : Result := callTo (restartVector 2) 1 16 s

/-- `RET C` (R388). -/
def execRetC (s : State) : Result := returnIf .c s

/-- `RETI` (R389). -/
def execReti (s : State) : Result := returnFromInterrupt (s.advance 1)

/-- `JP C,a16` (R381). -/
def execJpC_a16 (n : Word) (s : State) : Result := jumpAbsIf .c n s

/-- `CALL C,a16` (R386). -/
def execCallC_a16 (n : Word) (s : State) : Result := callIf .c n s

/-- `RST 18H` (R390). -/
def execRst18 (s : State) : Result := callTo (restartVector 3) 1 16 s

/-- `RST 20H` (R390). -/
def execRst20 (s : State) : Result := callTo (restartVector 4) 1 16 s

/-- `JP HL` (R382). -/
def execJpHL (s : State) : Result := jumpHl s

/-- `RST 28H` (R390). -/
def execRst28 (s : State) : Result := callTo (restartVector 5) 1 16 s

/-- `RST 30H` (R390). -/
def execRst30 (s : State) : Result := callTo (restartVector 6) 1 16 s

/-- `RST 38H` (R390). -/
def execRst38 (s : State) : Result := callTo (restartVector 7) 1 16 s

end Sys2Proof.Machine
end

