-- ==== Sys2Proof/Machine/Load16.lean ====
section
/-! DEFINITION. 16-bit loads and stack operations (42_load16.md R230 to R236). -/

namespace Sys2Proof.Machine

/-- `LD rr,d16` (R230). -/
def loadPairImm (rr : Pair) (n : Word) (s : State) : Result :=
  complete 12 ((s.advance 3).setPair rr n)

/-- `LD (a16),SP`: the low byte at `n`, then the high byte at `n + 1` modulo 2^16 (R231, R77). -/
def storeSp (n : Word) (s : State) : Result :=
  memWrite n (loByte s.sp) (s.advance 3) fun s1 => memWrite (n + 1) (hiByte s.sp) s1 (complete 20)

/-- `LD SP,HL` (R232). -/
def loadSpHl (s : State) : Result :=
  complete 8 ((s.advance 1).setSp s.hl)

/-- `PUSH rr` (R233). -/
def pushPair (rr : StackPair) (s : State) : Result :=
  push16 (s.stackPair rr) (s.advance 1) (complete 16)

/-- `POP rr` (R234) and `POP AF` (R235): the pair is written after both reads. -/
def popPair (rr : StackPair) (s : State) : Result :=
  pop16 (s.advance 1) fun v s1 => complete 12 (s1.setStackPair rr v)

/-- `LD HL,SP+r8` (R236). -/
def loadHlSpOffset (e : Byte) (s : State) : Result :=
  complete 12 (((s.advance 2).setPair .hl (s.sp + sext16 e)).setFlags false false
    (spOffsetH s.sp e) (spOffsetC s.sp e))

/-- `LD BC,d16` (R230). -/
def execLdBC_d16 (n : Word) (s : State) : Result := loadPairImm .bc n s

/-- `LD (a16),SP` (R231). -/
def execLdMemA16_SP (n : Word) (s : State) : Result := storeSp n s

/-- `LD DE,d16` (R230). -/
def execLdDE_d16 (n : Word) (s : State) : Result := loadPairImm .de n s

/-- `LD HL,d16` (R230). -/
def execLdHL_d16 (n : Word) (s : State) : Result := loadPairImm .hl n s

/-- `LD SP,d16` (R230). -/
def execLdSP_d16 (n : Word) (s : State) : Result := loadPairImm .sp n s

/-- `POP BC` (R234). -/
def execPopBC (s : State) : Result := popPair .bc s

/-- `PUSH BC` (R233). -/
def execPushBC (s : State) : Result := pushPair .bc s

/-- `POP DE` (R234). -/
def execPopDE (s : State) : Result := popPair .de s

/-- `PUSH DE` (R233). -/
def execPushDE (s : State) : Result := pushPair .de s

/-- `POP HL` (R234). -/
def execPopHL (s : State) : Result := popPair .hl s

/-- `PUSH HL` (R233). -/
def execPushHL (s : State) : Result := pushPair .hl s

/-- `POP AF` (R235). -/
def execPopAF (s : State) : Result := popPair .af s

/-- `PUSH AF` (R233). -/
def execPushAF (s : State) : Result := pushPair .af s

/-- `LD HL,SP+r8` (R236). -/
def execLdHL_SPr8 (n : Byte) (s : State) : Result := loadHlSpOffset n s

/-- `LD SP,HL` (R232). -/
def execLdSP_HL (s : State) : Result := loadSpHl s

end Sys2Proof.Machine
end

