-- ==== Sys2Proof/Machine/Load8.lean ====
section
/-! DEFINITION. 8-bit loads and stores (41_load8.md R200 to R218). Every meaning begins with the PC advance of R143 and
ends with the cycle report of R144. -/

namespace Sys2Proof.Machine

/-- `LD r,r'` (R200). -/
def loadRegReg (dst src : Reg8) (s : State) : Result :=
  complete 4 ((s.advance 1).setReg8 dst (s.reg8 src))

/-- `LD r,d8` (R201). -/
def loadRegImm (r : Reg8) (n : Byte) (s : State) : Result :=
  complete 8 ((s.advance 2).setReg8 r n)

/-- A load of one byte from address `a` into `r`, by an instruction of `len` bytes and `cyc` cycles (R202, R205, R206,
R209, R211, R213). -/
def loadByte (r : Reg8) (a : Word) (len cyc : Nat) (s : State) : Result :=
  memRead a (s.advance len) fun v s1 => complete cyc (s1.setReg8 r v)

/-- A store of the byte `v` to address `a`, by an instruction of `len` bytes and `cyc` cycles (R203, R204, R207, R208,
R210, R212, R214). -/
def storeByte (a : Word) (v : Byte) (len cyc : Nat) (s : State) : Result :=
  memWrite a v (s.advance len) (complete cyc)

/-- `LD A,(HL+)` and `LD A,(HL-)`: the load, then HL moved by `delta` (R215, R216, R110). -/
def loadAStep (delta : Word) (s : State) : Result :=
  memRead s.hl (s.advance 1) fun v s1 => complete 8 ((s1.setReg8 .a v).setPair .hl (s.hl + delta))

/-- `LD (HL+),A` and `LD (HL-),A`: the store, then HL moved by `delta` (R217, R218, R110). -/
def storeAStep (delta : Word) (s : State) : Result :=
  memWrite s.hl s.a (s.advance 1) fun s1 => complete 8 (s1.setPair .hl (s.hl + delta))

/-- `LD (BC),A` (R207). -/
def execLdMemBC_A (s : State) : Result := storeByte (s.pair .bc) s.a 1 8 s

/-- `LD B,d8` (R201). -/
def execLdB_d8 (n : Byte) (s : State) : Result := loadRegImm .b n s

/-- `LD A,(BC)` (R205). -/
def execLdA_MemBC (s : State) : Result := loadByte .a (s.pair .bc) 1 8 s

/-- `LD C,d8` (R201). -/
def execLdC_d8 (n : Byte) (s : State) : Result := loadRegImm .c n s

/-- `LD (DE),A` (R208). -/
def execLdMemDE_A (s : State) : Result := storeByte (s.pair .de) s.a 1 8 s

/-- `LD D,d8` (R201). -/
def execLdD_d8 (n : Byte) (s : State) : Result := loadRegImm .d n s

/-- `LD A,(DE)` (R206). -/
def execLdA_MemDE (s : State) : Result := loadByte .a (s.pair .de) 1 8 s

/-- `LD E,d8` (R201). -/
def execLdE_d8 (n : Byte) (s : State) : Result := loadRegImm .e n s

/-- `LD (HL+),A` (R217). -/
def execLdMemHLInc_A (s : State) : Result := storeAStep 1 s

/-- `LD H,d8` (R201). -/
def execLdH_d8 (n : Byte) (s : State) : Result := loadRegImm .h n s

/-- `LD A,(HL+)` (R215). -/
def execLdA_MemHLInc (s : State) : Result := loadAStep 1 s

/-- `LD L,d8` (R201). -/
def execLdL_d8 (n : Byte) (s : State) : Result := loadRegImm .l n s

/-- `LD (HL-),A` (R218). -/
def execLdMemHLDec_A (s : State) : Result := storeAStep (-1) s

/-- `LD (HL),d8` (R204). -/
def execLdMemHL_d8 (n : Byte) (s : State) : Result := storeByte s.hl n 2 12 s

/-- `LD A,(HL-)` (R216). -/
def execLdA_MemHLDec (s : State) : Result := loadAStep (-1) s

/-- `LD A,d8` (R201). -/
def execLdA_d8 (n : Byte) (s : State) : Result := loadRegImm .a n s

/-- `LD B,B` (R200). -/
def execLdB_B (s : State) : Result := loadRegReg .b .b s

/-- `LD B,C` (R200). -/
def execLdB_C (s : State) : Result := loadRegReg .b .c s

/-- `LD B,D` (R200). -/
def execLdB_D (s : State) : Result := loadRegReg .b .d s

/-- `LD B,E` (R200). -/
def execLdB_E (s : State) : Result := loadRegReg .b .e s

/-- `LD B,H` (R200). -/
def execLdB_H (s : State) : Result := loadRegReg .b .h s

/-- `LD B,L` (R200). -/
def execLdB_L (s : State) : Result := loadRegReg .b .l s

/-- `LD B,(HL)` (R202). -/
def execLdB_MemHL (s : State) : Result := loadByte .b s.hl 1 8 s

/-- `LD B,A` (R200). -/
def execLdB_A (s : State) : Result := loadRegReg .b .a s

/-- `LD C,B` (R200). -/
def execLdC_B (s : State) : Result := loadRegReg .c .b s

/-- `LD C,C` (R200). -/
def execLdC_C (s : State) : Result := loadRegReg .c .c s

/-- `LD C,D` (R200). -/
def execLdC_D (s : State) : Result := loadRegReg .c .d s

/-- `LD C,E` (R200). -/
def execLdC_E (s : State) : Result := loadRegReg .c .e s

/-- `LD C,H` (R200). -/
def execLdC_H (s : State) : Result := loadRegReg .c .h s

/-- `LD C,L` (R200). -/
def execLdC_L (s : State) : Result := loadRegReg .c .l s

/-- `LD C,(HL)` (R202). -/
def execLdC_MemHL (s : State) : Result := loadByte .c s.hl 1 8 s

/-- `LD C,A` (R200). -/
def execLdC_A (s : State) : Result := loadRegReg .c .a s

/-- `LD D,B` (R200). -/
def execLdD_B (s : State) : Result := loadRegReg .d .b s

/-- `LD D,C` (R200). -/
def execLdD_C (s : State) : Result := loadRegReg .d .c s

/-- `LD D,D` (R200). -/
def execLdD_D (s : State) : Result := loadRegReg .d .d s

/-- `LD D,E` (R200). -/
def execLdD_E (s : State) : Result := loadRegReg .d .e s

/-- `LD D,H` (R200). -/
def execLdD_H (s : State) : Result := loadRegReg .d .h s

/-- `LD D,L` (R200). -/
def execLdD_L (s : State) : Result := loadRegReg .d .l s

/-- `LD D,(HL)` (R202). -/
def execLdD_MemHL (s : State) : Result := loadByte .d s.hl 1 8 s

/-- `LD D,A` (R200). -/
def execLdD_A (s : State) : Result := loadRegReg .d .a s

/-- `LD E,B` (R200). -/
def execLdE_B (s : State) : Result := loadRegReg .e .b s

/-- `LD E,C` (R200). -/
def execLdE_C (s : State) : Result := loadRegReg .e .c s

/-- `LD E,D` (R200). -/
def execLdE_D (s : State) : Result := loadRegReg .e .d s

/-- `LD E,E` (R200). -/
def execLdE_E (s : State) : Result := loadRegReg .e .e s

/-- `LD E,H` (R200). -/
def execLdE_H (s : State) : Result := loadRegReg .e .h s

/-- `LD E,L` (R200). -/
def execLdE_L (s : State) : Result := loadRegReg .e .l s

/-- `LD E,(HL)` (R202). -/
def execLdE_MemHL (s : State) : Result := loadByte .e s.hl 1 8 s

/-- `LD E,A` (R200). -/
def execLdE_A (s : State) : Result := loadRegReg .e .a s

/-- `LD H,B` (R200). -/
def execLdH_B (s : State) : Result := loadRegReg .h .b s

/-- `LD H,C` (R200). -/
def execLdH_C (s : State) : Result := loadRegReg .h .c s

/-- `LD H,D` (R200). -/
def execLdH_D (s : State) : Result := loadRegReg .h .d s

/-- `LD H,E` (R200). -/
def execLdH_E (s : State) : Result := loadRegReg .h .e s

/-- `LD H,H` (R200). -/
def execLdH_H (s : State) : Result := loadRegReg .h .h s

/-- `LD H,L` (R200). -/
def execLdH_L (s : State) : Result := loadRegReg .h .l s

/-- `LD H,(HL)` (R202). -/
def execLdH_MemHL (s : State) : Result := loadByte .h s.hl 1 8 s

/-- `LD H,A` (R200). -/
def execLdH_A (s : State) : Result := loadRegReg .h .a s

/-- `LD L,B` (R200). -/
def execLdL_B (s : State) : Result := loadRegReg .l .b s

/-- `LD L,C` (R200). -/
def execLdL_C (s : State) : Result := loadRegReg .l .c s

/-- `LD L,D` (R200). -/
def execLdL_D (s : State) : Result := loadRegReg .l .d s

/-- `LD L,E` (R200). -/
def execLdL_E (s : State) : Result := loadRegReg .l .e s

/-- `LD L,H` (R200). -/
def execLdL_H (s : State) : Result := loadRegReg .l .h s

/-- `LD L,L` (R200). -/
def execLdL_L (s : State) : Result := loadRegReg .l .l s

/-- `LD L,(HL)` (R202). -/
def execLdL_MemHL (s : State) : Result := loadByte .l s.hl 1 8 s

/-- `LD L,A` (R200). -/
def execLdL_A (s : State) : Result := loadRegReg .l .a s

/-- `LD (HL),B` (R203). -/
def execLdMemHL_B (s : State) : Result := storeByte s.hl (s.reg8 .b) 1 8 s

/-- `LD (HL),C` (R203). -/
def execLdMemHL_C (s : State) : Result := storeByte s.hl (s.reg8 .c) 1 8 s

/-- `LD (HL),D` (R203). -/
def execLdMemHL_D (s : State) : Result := storeByte s.hl (s.reg8 .d) 1 8 s

/-- `LD (HL),E` (R203). -/
def execLdMemHL_E (s : State) : Result := storeByte s.hl (s.reg8 .e) 1 8 s

/-- `LD (HL),H` (R203). -/
def execLdMemHL_H (s : State) : Result := storeByte s.hl (s.reg8 .h) 1 8 s

/-- `LD (HL),L` (R203). -/
def execLdMemHL_L (s : State) : Result := storeByte s.hl (s.reg8 .l) 1 8 s

/-- `LD (HL),A` (R203). -/
def execLdMemHL_A (s : State) : Result := storeByte s.hl (s.reg8 .a) 1 8 s

/-- `LD A,B` (R200). -/
def execLdA_B (s : State) : Result := loadRegReg .a .b s

/-- `LD A,C` (R200). -/
def execLdA_C (s : State) : Result := loadRegReg .a .c s

/-- `LD A,D` (R200). -/
def execLdA_D (s : State) : Result := loadRegReg .a .d s

/-- `LD A,E` (R200). -/
def execLdA_E (s : State) : Result := loadRegReg .a .e s

/-- `LD A,H` (R200). -/
def execLdA_H (s : State) : Result := loadRegReg .a .h s

/-- `LD A,L` (R200). -/
def execLdA_L (s : State) : Result := loadRegReg .a .l s

/-- `LD A,(HL)` (R202). -/
def execLdA_MemHL (s : State) : Result := loadByte .a s.hl 1 8 s

/-- `LD A,A` (R200). -/
def execLdA_A (s : State) : Result := loadRegReg .a .a s

/-- `LDH (a8),A` (R212). -/
def execLdhMemA8_A (n : Byte) (s : State) : Result := storeByte (highPage n) s.a 2 12 s

/-- `LD (C),A` (R214). -/
def execLdMemC_A (s : State) : Result := storeByte (highPage s.c) s.a 1 8 s

/-- `LD (a16),A` (R210). -/
def execLdMemA16_A (n : Word) (s : State) : Result := storeByte n s.a 3 16 s

/-- `LDH A,(a8)` (R211). -/
def execLdhA_MemA8 (n : Byte) (s : State) : Result := loadByte .a (highPage n) 2 12 s

/-- `LD A,(C)` (R213). -/
def execLdA_MemC (s : State) : Result := loadByte .a (highPage s.c) 1 8 s

/-- `LD A,(a16)` (R209). -/
def execLdA_MemA16 (n : Word) (s : State) : Result := loadByte .a n 3 16 s

end Sys2Proof.Machine
end

