-- ==== Sys2Proof/Machine/Misc.lean ====
section
/-! DEFINITION. Control of the core and no-ops (47_misc.md R420 to R425), and the placeholder row (R113, R147). -/

namespace Sys2Proof.Machine

/-- Only the PC advance happens, in 4 cycles (R420, R425). -/
def noEffect (s : State) : Result :=
  complete 4 (s.advance 1)

/-- HALT and STOP: the core enters Halted (R421, R422). -/
def enterHalted (len : Nat) (s : State) : Result :=
  complete 4 ((s.advance len).setRun .halted)

/-- `NOP` (R420). -/
def execNop (s : State) : Result := noEffect s

/-- `STOP` (R422): the second byte is ignored. -/
def execStop (_n : Byte) (s : State) : Result := enterHalted 2 s

/-- `HALT` (R421). -/
def execHalt (s : State) : Result := enterHalted 1 s

/-- `PREFIX CB` (R147): the descriptor of R113, length 1 and 4 cycles, with no effect; no step executes it (log 12). -/
def execPrefixCb (s : State) : Result := noEffect s

/-- `ILLEGAL_D3` (R425). -/
def execIllegalD3 (s : State) : Result := noEffect s

/-- `ILLEGAL_DB` (R425). -/
def execIllegalDB (s : State) : Result := noEffect s

/-- `ILLEGAL_DD` (R425). -/
def execIllegalDD (s : State) : Result := noEffect s

/-- `ILLEGAL_E3` (R425). -/
def execIllegalE3 (s : State) : Result := noEffect s

/-- `ILLEGAL_E4` (R425). -/
def execIllegalE4 (s : State) : Result := noEffect s

/-- `ILLEGAL_EB` (R425). -/
def execIllegalEB (s : State) : Result := noEffect s

/-- `ILLEGAL_EC` (R425). -/
def execIllegalEC (s : State) : Result := noEffect s

/-- `ILLEGAL_ED` (R425). -/
def execIllegalED (s : State) : Result := noEffect s

/-- `DI` (R423). -/
def execDi (s : State) : Result := complete 4 ((s.advance 1).setIme false false)

/-- `ILLEGAL_F4` (R425). -/
def execIllegalF4 (s : State) : Result := noEffect s

/-- `EI` (R424): `ime` is written at the end of the next step (R145). -/
def execEi (s : State) : Result := complete 4 ((s.advance 1).setIme s.ime true)

/-- `ILLEGAL_FC` (R425). -/
def execIllegalFC (s : State) : Result := noEffect s

/-- `ILLEGAL_FD` (R425). -/
def execIllegalFD (s : State) : Result := noEffect s

end Sys2Proof.Machine
end

