-- ==== Sys2Proof/Machine/RotateBit.lean ====
section
/-! DEFINITION. Rotates, shifts and bit operations (45_rotate_shift_bit.md R330 to R361). -/

namespace Sys2Proof.Machine

/-- `RLCA`, `RRCA`, `RLA`, `RRA`: as the CB rotate on A, but Z is cleared (R330 to R333). -/
def rotateA (op : RotOp) (s : State) : Result :=
  let r := rotate8 op s.a s.flagC
  complete 4 (((s.advance 1).setReg8 .a r.1).setFlags false false false r.2)

/-- The register form of a CB rotate or shift (R340 to R354). -/
def rotateReg (op : RotOp) (r : Reg8) (s : State) : Result :=
  let x := rotate8 op (s.reg8 r) s.flagC
  complete 8 (((s.advance 2).setReg8 r x.1).setFlags (decide (x.1 = 0)) false false x.2)

/-- The (HL) form of a CB rotate or shift: a read, then a write (R341 to R355). -/
def rotateMem (op : RotOp) (s : State) : Result :=
  memRead s.hl (s.advance 2) fun v s1 =>
    let x := rotate8 op v s.flagC
    memWrite s.hl x.1 s1 fun s2 => complete 16 (s2.setFlags (decide (x.1 = 0)) false false x.2)

/-- `BIT b,r`: C kept (R356). -/
def testBitReg (b : Fin 8) (r : Reg8) (s : State) : Result :=
  complete 8 ((s.advance 2).setFlags (!(s.reg8 r).getLsbD b.val) false true s.flagC)

/-- `BIT b,(HL)`: one read, no write; C kept (R357). -/
def testBitMem (b : Fin 8) (s : State) : Result :=
  memRead s.hl (s.advance 2) fun v s1 => complete 12 (s1.setFlags (!v.getLsbD b.val) false true s.flagC)

/-- `RES b,r` (R358). -/
def resetBitReg (b : Fin 8) (r : Reg8) (s : State) : Result :=
  complete 8 ((s.advance 2).setReg8 r (s.reg8 r &&& ~~~bitMask b))

/-- `RES b,(HL)`: a read, then a write (R359). -/
def resetBitMem (b : Fin 8) (s : State) : Result :=
  memRead s.hl (s.advance 2) fun v s1 => memWrite s.hl (v &&& ~~~bitMask b) s1 (complete 16)

/-- `SET b,r` (R360). -/
def setBitReg (b : Fin 8) (r : Reg8) (s : State) : Result :=
  complete 8 ((s.advance 2).setReg8 r (s.reg8 r ||| bitMask b))

/-- `SET b,(HL)`: a read, then a write (R361). -/
def setBitMem (b : Fin 8) (s : State) : Result :=
  memRead s.hl (s.advance 2) fun v s1 => memWrite s.hl (v ||| bitMask b) s1 (complete 16)

/-- `RLCA` (R330). -/
def execRlca (s : State) : Result := rotateA .rlc s

/-- `RRCA` (R331). -/
def execRrca (s : State) : Result := rotateA .rrc s

/-- `RLA` (R332). -/
def execRla (s : State) : Result := rotateA .rl s

/-- `RRA` (R333). -/
def execRra (s : State) : Result := rotateA .rr s

/-- `RLC B` (R340). -/
def execRlcB (s : State) : Result := rotateReg .rlc .b s

/-- `RLC C` (R340). -/
def execRlcC (s : State) : Result := rotateReg .rlc .c s

/-- `RLC D` (R340). -/
def execRlcD (s : State) : Result := rotateReg .rlc .d s

/-- `RLC E` (R340). -/
def execRlcE (s : State) : Result := rotateReg .rlc .e s

/-- `RLC H` (R340). -/
def execRlcH (s : State) : Result := rotateReg .rlc .h s

/-- `RLC L` (R340). -/
def execRlcL (s : State) : Result := rotateReg .rlc .l s

/-- `RLC (HL)` (R341). -/
def execRlcMemHL (s : State) : Result := rotateMem .rlc s

/-- `RLC A` (R340). -/
def execRlcA (s : State) : Result := rotateReg .rlc .a s

/-- `RRC B` (R342). -/
def execRrcB (s : State) : Result := rotateReg .rrc .b s

/-- `RRC C` (R342). -/
def execRrcC (s : State) : Result := rotateReg .rrc .c s

/-- `RRC D` (R342). -/
def execRrcD (s : State) : Result := rotateReg .rrc .d s

/-- `RRC E` (R342). -/
def execRrcE (s : State) : Result := rotateReg .rrc .e s

/-- `RRC H` (R342). -/
def execRrcH (s : State) : Result := rotateReg .rrc .h s

/-- `RRC L` (R342). -/
def execRrcL (s : State) : Result := rotateReg .rrc .l s

/-- `RRC (HL)` (R343). -/
def execRrcMemHL (s : State) : Result := rotateMem .rrc s

/-- `RRC A` (R342). -/
def execRrcA (s : State) : Result := rotateReg .rrc .a s

/-- `RL B` (R344). -/
def execRlB (s : State) : Result := rotateReg .rl .b s

/-- `RL C` (R344). -/
def execRlC (s : State) : Result := rotateReg .rl .c s

/-- `RL D` (R344). -/
def execRlD (s : State) : Result := rotateReg .rl .d s

/-- `RL E` (R344). -/
def execRlE (s : State) : Result := rotateReg .rl .e s

/-- `RL H` (R344). -/
def execRlH (s : State) : Result := rotateReg .rl .h s

/-- `RL L` (R344). -/
def execRlL (s : State) : Result := rotateReg .rl .l s

/-- `RL (HL)` (R345). -/
def execRlMemHL (s : State) : Result := rotateMem .rl s

/-- `RL A` (R344). -/
def execRlA (s : State) : Result := rotateReg .rl .a s

/-- `RR B` (R346). -/
def execRrB (s : State) : Result := rotateReg .rr .b s

/-- `RR C` (R346). -/
def execRrC (s : State) : Result := rotateReg .rr .c s

/-- `RR D` (R346). -/
def execRrD (s : State) : Result := rotateReg .rr .d s

/-- `RR E` (R346). -/
def execRrE (s : State) : Result := rotateReg .rr .e s

/-- `RR H` (R346). -/
def execRrH (s : State) : Result := rotateReg .rr .h s

/-- `RR L` (R346). -/
def execRrL (s : State) : Result := rotateReg .rr .l s

/-- `RR (HL)` (R347). -/
def execRrMemHL (s : State) : Result := rotateMem .rr s

/-- `RR A` (R346). -/
def execRrA (s : State) : Result := rotateReg .rr .a s

/-- `SLA B` (R348). -/
def execSlaB (s : State) : Result := rotateReg .sla .b s

/-- `SLA C` (R348). -/
def execSlaC (s : State) : Result := rotateReg .sla .c s

/-- `SLA D` (R348). -/
def execSlaD (s : State) : Result := rotateReg .sla .d s

/-- `SLA E` (R348). -/
def execSlaE (s : State) : Result := rotateReg .sla .e s

/-- `SLA H` (R348). -/
def execSlaH (s : State) : Result := rotateReg .sla .h s

/-- `SLA L` (R348). -/
def execSlaL (s : State) : Result := rotateReg .sla .l s

/-- `SLA (HL)` (R349). -/
def execSlaMemHL (s : State) : Result := rotateMem .sla s

/-- `SLA A` (R348). -/
def execSlaA (s : State) : Result := rotateReg .sla .a s

/-- `SRA B` (R350). -/
def execSraB (s : State) : Result := rotateReg .sra .b s

/-- `SRA C` (R350). -/
def execSraC (s : State) : Result := rotateReg .sra .c s

/-- `SRA D` (R350). -/
def execSraD (s : State) : Result := rotateReg .sra .d s

/-- `SRA E` (R350). -/
def execSraE (s : State) : Result := rotateReg .sra .e s

/-- `SRA H` (R350). -/
def execSraH (s : State) : Result := rotateReg .sra .h s

/-- `SRA L` (R350). -/
def execSraL (s : State) : Result := rotateReg .sra .l s

/-- `SRA (HL)` (R351). -/
def execSraMemHL (s : State) : Result := rotateMem .sra s

/-- `SRA A` (R350). -/
def execSraA (s : State) : Result := rotateReg .sra .a s

/-- `SWAP B` (R352). -/
def execSwapB (s : State) : Result := rotateReg .swap .b s

/-- `SWAP C` (R352). -/
def execSwapC (s : State) : Result := rotateReg .swap .c s

/-- `SWAP D` (R352). -/
def execSwapD (s : State) : Result := rotateReg .swap .d s

/-- `SWAP E` (R352). -/
def execSwapE (s : State) : Result := rotateReg .swap .e s

/-- `SWAP H` (R352). -/
def execSwapH (s : State) : Result := rotateReg .swap .h s

/-- `SWAP L` (R352). -/
def execSwapL (s : State) : Result := rotateReg .swap .l s

/-- `SWAP (HL)` (R353). -/
def execSwapMemHL (s : State) : Result := rotateMem .swap s

/-- `SWAP A` (R352). -/
def execSwapA (s : State) : Result := rotateReg .swap .a s

/-- `SRL B` (R354). -/
def execSrlB (s : State) : Result := rotateReg .srl .b s

/-- `SRL C` (R354). -/
def execSrlC (s : State) : Result := rotateReg .srl .c s

/-- `SRL D` (R354). -/
def execSrlD (s : State) : Result := rotateReg .srl .d s

/-- `SRL E` (R354). -/
def execSrlE (s : State) : Result := rotateReg .srl .e s

/-- `SRL H` (R354). -/
def execSrlH (s : State) : Result := rotateReg .srl .h s

/-- `SRL L` (R354). -/
def execSrlL (s : State) : Result := rotateReg .srl .l s

/-- `SRL (HL)` (R355). -/
def execSrlMemHL (s : State) : Result := rotateMem .srl s

/-- `SRL A` (R354). -/
def execSrlA (s : State) : Result := rotateReg .srl .a s

/-- `BIT 0,B` (R356). -/
def execBit0_B (s : State) : Result := testBitReg 0 .b s

/-- `BIT 0,C` (R356). -/
def execBit0_C (s : State) : Result := testBitReg 0 .c s

/-- `BIT 0,D` (R356). -/
def execBit0_D (s : State) : Result := testBitReg 0 .d s

/-- `BIT 0,E` (R356). -/
def execBit0_E (s : State) : Result := testBitReg 0 .e s

/-- `BIT 0,H` (R356). -/
def execBit0_H (s : State) : Result := testBitReg 0 .h s

/-- `BIT 0,L` (R356). -/
def execBit0_L (s : State) : Result := testBitReg 0 .l s

/-- `BIT 0,(HL)` (R357). -/
def execBit0_MemHL (s : State) : Result := testBitMem 0 s

/-- `BIT 0,A` (R356). -/
def execBit0_A (s : State) : Result := testBitReg 0 .a s

/-- `BIT 1,B` (R356). -/
def execBit1_B (s : State) : Result := testBitReg 1 .b s

/-- `BIT 1,C` (R356). -/
def execBit1_C (s : State) : Result := testBitReg 1 .c s

/-- `BIT 1,D` (R356). -/
def execBit1_D (s : State) : Result := testBitReg 1 .d s

/-- `BIT 1,E` (R356). -/
def execBit1_E (s : State) : Result := testBitReg 1 .e s

/-- `BIT 1,H` (R356). -/
def execBit1_H (s : State) : Result := testBitReg 1 .h s

/-- `BIT 1,L` (R356). -/
def execBit1_L (s : State) : Result := testBitReg 1 .l s

/-- `BIT 1,(HL)` (R357). -/
def execBit1_MemHL (s : State) : Result := testBitMem 1 s

/-- `BIT 1,A` (R356). -/
def execBit1_A (s : State) : Result := testBitReg 1 .a s

/-- `BIT 2,B` (R356). -/
def execBit2_B (s : State) : Result := testBitReg 2 .b s

/-- `BIT 2,C` (R356). -/
def execBit2_C (s : State) : Result := testBitReg 2 .c s

/-- `BIT 2,D` (R356). -/
def execBit2_D (s : State) : Result := testBitReg 2 .d s

/-- `BIT 2,E` (R356). -/
def execBit2_E (s : State) : Result := testBitReg 2 .e s

/-- `BIT 2,H` (R356). -/
def execBit2_H (s : State) : Result := testBitReg 2 .h s

/-- `BIT 2,L` (R356). -/
def execBit2_L (s : State) : Result := testBitReg 2 .l s

/-- `BIT 2,(HL)` (R357). -/
def execBit2_MemHL (s : State) : Result := testBitMem 2 s

/-- `BIT 2,A` (R356). -/
def execBit2_A (s : State) : Result := testBitReg 2 .a s

/-- `BIT 3,B` (R356). -/
def execBit3_B (s : State) : Result := testBitReg 3 .b s

/-- `BIT 3,C` (R356). -/
def execBit3_C (s : State) : Result := testBitReg 3 .c s

/-- `BIT 3,D` (R356). -/
def execBit3_D (s : State) : Result := testBitReg 3 .d s

/-- `BIT 3,E` (R356). -/
def execBit3_E (s : State) : Result := testBitReg 3 .e s

/-- `BIT 3,H` (R356). -/
def execBit3_H (s : State) : Result := testBitReg 3 .h s

/-- `BIT 3,L` (R356). -/
def execBit3_L (s : State) : Result := testBitReg 3 .l s

/-- `BIT 3,(HL)` (R357). -/
def execBit3_MemHL (s : State) : Result := testBitMem 3 s

/-- `BIT 3,A` (R356). -/
def execBit3_A (s : State) : Result := testBitReg 3 .a s

/-- `BIT 4,B` (R356). -/
def execBit4_B (s : State) : Result := testBitReg 4 .b s

/-- `BIT 4,C` (R356). -/
def execBit4_C (s : State) : Result := testBitReg 4 .c s

/-- `BIT 4,D` (R356). -/
def execBit4_D (s : State) : Result := testBitReg 4 .d s

/-- `BIT 4,E` (R356). -/
def execBit4_E (s : State) : Result := testBitReg 4 .e s

/-- `BIT 4,H` (R356). -/
def execBit4_H (s : State) : Result := testBitReg 4 .h s

/-- `BIT 4,L` (R356). -/
def execBit4_L (s : State) : Result := testBitReg 4 .l s

/-- `BIT 4,(HL)` (R357). -/
def execBit4_MemHL (s : State) : Result := testBitMem 4 s

/-- `BIT 4,A` (R356). -/
def execBit4_A (s : State) : Result := testBitReg 4 .a s

/-- `BIT 5,B` (R356). -/
def execBit5_B (s : State) : Result := testBitReg 5 .b s

/-- `BIT 5,C` (R356). -/
def execBit5_C (s : State) : Result := testBitReg 5 .c s

/-- `BIT 5,D` (R356). -/
def execBit5_D (s : State) : Result := testBitReg 5 .d s

/-- `BIT 5,E` (R356). -/
def execBit5_E (s : State) : Result := testBitReg 5 .e s

/-- `BIT 5,H` (R356). -/
def execBit5_H (s : State) : Result := testBitReg 5 .h s

/-- `BIT 5,L` (R356). -/
def execBit5_L (s : State) : Result := testBitReg 5 .l s

/-- `BIT 5,(HL)` (R357). -/
def execBit5_MemHL (s : State) : Result := testBitMem 5 s

/-- `BIT 5,A` (R356). -/
def execBit5_A (s : State) : Result := testBitReg 5 .a s

/-- `BIT 6,B` (R356). -/
def execBit6_B (s : State) : Result := testBitReg 6 .b s

/-- `BIT 6,C` (R356). -/
def execBit6_C (s : State) : Result := testBitReg 6 .c s

/-- `BIT 6,D` (R356). -/
def execBit6_D (s : State) : Result := testBitReg 6 .d s

/-- `BIT 6,E` (R356). -/
def execBit6_E (s : State) : Result := testBitReg 6 .e s

/-- `BIT 6,H` (R356). -/
def execBit6_H (s : State) : Result := testBitReg 6 .h s

/-- `BIT 6,L` (R356). -/
def execBit6_L (s : State) : Result := testBitReg 6 .l s

/-- `BIT 6,(HL)` (R357). -/
def execBit6_MemHL (s : State) : Result := testBitMem 6 s

/-- `BIT 6,A` (R356). -/
def execBit6_A (s : State) : Result := testBitReg 6 .a s

/-- `BIT 7,B` (R356). -/
def execBit7_B (s : State) : Result := testBitReg 7 .b s

/-- `BIT 7,C` (R356). -/
def execBit7_C (s : State) : Result := testBitReg 7 .c s

/-- `BIT 7,D` (R356). -/
def execBit7_D (s : State) : Result := testBitReg 7 .d s

/-- `BIT 7,E` (R356). -/
def execBit7_E (s : State) : Result := testBitReg 7 .e s

/-- `BIT 7,H` (R356). -/
def execBit7_H (s : State) : Result := testBitReg 7 .h s

/-- `BIT 7,L` (R356). -/
def execBit7_L (s : State) : Result := testBitReg 7 .l s

/-- `BIT 7,(HL)` (R357). -/
def execBit7_MemHL (s : State) : Result := testBitMem 7 s

/-- `BIT 7,A` (R356). -/
def execBit7_A (s : State) : Result := testBitReg 7 .a s

/-- `RES 0,B` (R358). -/
def execRes0_B (s : State) : Result := resetBitReg 0 .b s

/-- `RES 0,C` (R358). -/
def execRes0_C (s : State) : Result := resetBitReg 0 .c s

/-- `RES 0,D` (R358). -/
def execRes0_D (s : State) : Result := resetBitReg 0 .d s

/-- `RES 0,E` (R358). -/
def execRes0_E (s : State) : Result := resetBitReg 0 .e s

/-- `RES 0,H` (R358). -/
def execRes0_H (s : State) : Result := resetBitReg 0 .h s

/-- `RES 0,L` (R358). -/
def execRes0_L (s : State) : Result := resetBitReg 0 .l s

/-- `RES 0,(HL)` (R359). -/
def execRes0_MemHL (s : State) : Result := resetBitMem 0 s

/-- `RES 0,A` (R358). -/
def execRes0_A (s : State) : Result := resetBitReg 0 .a s

/-- `RES 1,B` (R358). -/
def execRes1_B (s : State) : Result := resetBitReg 1 .b s

/-- `RES 1,C` (R358). -/
def execRes1_C (s : State) : Result := resetBitReg 1 .c s

/-- `RES 1,D` (R358). -/
def execRes1_D (s : State) : Result := resetBitReg 1 .d s

/-- `RES 1,E` (R358). -/
def execRes1_E (s : State) : Result := resetBitReg 1 .e s

/-- `RES 1,H` (R358). -/
def execRes1_H (s : State) : Result := resetBitReg 1 .h s

/-- `RES 1,L` (R358). -/
def execRes1_L (s : State) : Result := resetBitReg 1 .l s

/-- `RES 1,(HL)` (R359). -/
def execRes1_MemHL (s : State) : Result := resetBitMem 1 s

/-- `RES 1,A` (R358). -/
def execRes1_A (s : State) : Result := resetBitReg 1 .a s

/-- `RES 2,B` (R358). -/
def execRes2_B (s : State) : Result := resetBitReg 2 .b s

/-- `RES 2,C` (R358). -/
def execRes2_C (s : State) : Result := resetBitReg 2 .c s

/-- `RES 2,D` (R358). -/
def execRes2_D (s : State) : Result := resetBitReg 2 .d s

/-- `RES 2,E` (R358). -/
def execRes2_E (s : State) : Result := resetBitReg 2 .e s

/-- `RES 2,H` (R358). -/
def execRes2_H (s : State) : Result := resetBitReg 2 .h s

/-- `RES 2,L` (R358). -/
def execRes2_L (s : State) : Result := resetBitReg 2 .l s

/-- `RES 2,(HL)` (R359). -/
def execRes2_MemHL (s : State) : Result := resetBitMem 2 s

/-- `RES 2,A` (R358). -/
def execRes2_A (s : State) : Result := resetBitReg 2 .a s

/-- `RES 3,B` (R358). -/
def execRes3_B (s : State) : Result := resetBitReg 3 .b s

/-- `RES 3,C` (R358). -/
def execRes3_C (s : State) : Result := resetBitReg 3 .c s

/-- `RES 3,D` (R358). -/
def execRes3_D (s : State) : Result := resetBitReg 3 .d s

/-- `RES 3,E` (R358). -/
def execRes3_E (s : State) : Result := resetBitReg 3 .e s

/-- `RES 3,H` (R358). -/
def execRes3_H (s : State) : Result := resetBitReg 3 .h s

/-- `RES 3,L` (R358). -/
def execRes3_L (s : State) : Result := resetBitReg 3 .l s

/-- `RES 3,(HL)` (R359). -/
def execRes3_MemHL (s : State) : Result := resetBitMem 3 s

/-- `RES 3,A` (R358). -/
def execRes3_A (s : State) : Result := resetBitReg 3 .a s

/-- `RES 4,B` (R358). -/
def execRes4_B (s : State) : Result := resetBitReg 4 .b s

/-- `RES 4,C` (R358). -/
def execRes4_C (s : State) : Result := resetBitReg 4 .c s

/-- `RES 4,D` (R358). -/
def execRes4_D (s : State) : Result := resetBitReg 4 .d s

/-- `RES 4,E` (R358). -/
def execRes4_E (s : State) : Result := resetBitReg 4 .e s

/-- `RES 4,H` (R358). -/
def execRes4_H (s : State) : Result := resetBitReg 4 .h s

/-- `RES 4,L` (R358). -/
def execRes4_L (s : State) : Result := resetBitReg 4 .l s

/-- `RES 4,(HL)` (R359). -/
def execRes4_MemHL (s : State) : Result := resetBitMem 4 s

/-- `RES 4,A` (R358). -/
def execRes4_A (s : State) : Result := resetBitReg 4 .a s

/-- `RES 5,B` (R358). -/
def execRes5_B (s : State) : Result := resetBitReg 5 .b s

/-- `RES 5,C` (R358). -/
def execRes5_C (s : State) : Result := resetBitReg 5 .c s

/-- `RES 5,D` (R358). -/
def execRes5_D (s : State) : Result := resetBitReg 5 .d s

/-- `RES 5,E` (R358). -/
def execRes5_E (s : State) : Result := resetBitReg 5 .e s

/-- `RES 5,H` (R358). -/
def execRes5_H (s : State) : Result := resetBitReg 5 .h s

/-- `RES 5,L` (R358). -/
def execRes5_L (s : State) : Result := resetBitReg 5 .l s

/-- `RES 5,(HL)` (R359). -/
def execRes5_MemHL (s : State) : Result := resetBitMem 5 s

/-- `RES 5,A` (R358). -/
def execRes5_A (s : State) : Result := resetBitReg 5 .a s

/-- `RES 6,B` (R358). -/
def execRes6_B (s : State) : Result := resetBitReg 6 .b s

/-- `RES 6,C` (R358). -/
def execRes6_C (s : State) : Result := resetBitReg 6 .c s

/-- `RES 6,D` (R358). -/
def execRes6_D (s : State) : Result := resetBitReg 6 .d s

/-- `RES 6,E` (R358). -/
def execRes6_E (s : State) : Result := resetBitReg 6 .e s

/-- `RES 6,H` (R358). -/
def execRes6_H (s : State) : Result := resetBitReg 6 .h s

/-- `RES 6,L` (R358). -/
def execRes6_L (s : State) : Result := resetBitReg 6 .l s

/-- `RES 6,(HL)` (R359). -/
def execRes6_MemHL (s : State) : Result := resetBitMem 6 s

/-- `RES 6,A` (R358). -/
def execRes6_A (s : State) : Result := resetBitReg 6 .a s

/-- `RES 7,B` (R358). -/
def execRes7_B (s : State) : Result := resetBitReg 7 .b s

/-- `RES 7,C` (R358). -/
def execRes7_C (s : State) : Result := resetBitReg 7 .c s

/-- `RES 7,D` (R358). -/
def execRes7_D (s : State) : Result := resetBitReg 7 .d s

/-- `RES 7,E` (R358). -/
def execRes7_E (s : State) : Result := resetBitReg 7 .e s

/-- `RES 7,H` (R358). -/
def execRes7_H (s : State) : Result := resetBitReg 7 .h s

/-- `RES 7,L` (R358). -/
def execRes7_L (s : State) : Result := resetBitReg 7 .l s

/-- `RES 7,(HL)` (R359). -/
def execRes7_MemHL (s : State) : Result := resetBitMem 7 s

/-- `RES 7,A` (R358). -/
def execRes7_A (s : State) : Result := resetBitReg 7 .a s

/-- `SET 0,B` (R360). -/
def execSet0_B (s : State) : Result := setBitReg 0 .b s

/-- `SET 0,C` (R360). -/
def execSet0_C (s : State) : Result := setBitReg 0 .c s

/-- `SET 0,D` (R360). -/
def execSet0_D (s : State) : Result := setBitReg 0 .d s

/-- `SET 0,E` (R360). -/
def execSet0_E (s : State) : Result := setBitReg 0 .e s

/-- `SET 0,H` (R360). -/
def execSet0_H (s : State) : Result := setBitReg 0 .h s

/-- `SET 0,L` (R360). -/
def execSet0_L (s : State) : Result := setBitReg 0 .l s

/-- `SET 0,(HL)` (R361). -/
def execSet0_MemHL (s : State) : Result := setBitMem 0 s

/-- `SET 0,A` (R360). -/
def execSet0_A (s : State) : Result := setBitReg 0 .a s

/-- `SET 1,B` (R360). -/
def execSet1_B (s : State) : Result := setBitReg 1 .b s

/-- `SET 1,C` (R360). -/
def execSet1_C (s : State) : Result := setBitReg 1 .c s

/-- `SET 1,D` (R360). -/
def execSet1_D (s : State) : Result := setBitReg 1 .d s

/-- `SET 1,E` (R360). -/
def execSet1_E (s : State) : Result := setBitReg 1 .e s

/-- `SET 1,H` (R360). -/
def execSet1_H (s : State) : Result := setBitReg 1 .h s

/-- `SET 1,L` (R360). -/
def execSet1_L (s : State) : Result := setBitReg 1 .l s

/-- `SET 1,(HL)` (R361). -/
def execSet1_MemHL (s : State) : Result := setBitMem 1 s

/-- `SET 1,A` (R360). -/
def execSet1_A (s : State) : Result := setBitReg 1 .a s

/-- `SET 2,B` (R360). -/
def execSet2_B (s : State) : Result := setBitReg 2 .b s

/-- `SET 2,C` (R360). -/
def execSet2_C (s : State) : Result := setBitReg 2 .c s

/-- `SET 2,D` (R360). -/
def execSet2_D (s : State) : Result := setBitReg 2 .d s

/-- `SET 2,E` (R360). -/
def execSet2_E (s : State) : Result := setBitReg 2 .e s

/-- `SET 2,H` (R360). -/
def execSet2_H (s : State) : Result := setBitReg 2 .h s

/-- `SET 2,L` (R360). -/
def execSet2_L (s : State) : Result := setBitReg 2 .l s

/-- `SET 2,(HL)` (R361). -/
def execSet2_MemHL (s : State) : Result := setBitMem 2 s

/-- `SET 2,A` (R360). -/
def execSet2_A (s : State) : Result := setBitReg 2 .a s

/-- `SET 3,B` (R360). -/
def execSet3_B (s : State) : Result := setBitReg 3 .b s

/-- `SET 3,C` (R360). -/
def execSet3_C (s : State) : Result := setBitReg 3 .c s

/-- `SET 3,D` (R360). -/
def execSet3_D (s : State) : Result := setBitReg 3 .d s

/-- `SET 3,E` (R360). -/
def execSet3_E (s : State) : Result := setBitReg 3 .e s

/-- `SET 3,H` (R360). -/
def execSet3_H (s : State) : Result := setBitReg 3 .h s

/-- `SET 3,L` (R360). -/
def execSet3_L (s : State) : Result := setBitReg 3 .l s

/-- `SET 3,(HL)` (R361). -/
def execSet3_MemHL (s : State) : Result := setBitMem 3 s

/-- `SET 3,A` (R360). -/
def execSet3_A (s : State) : Result := setBitReg 3 .a s

/-- `SET 4,B` (R360). -/
def execSet4_B (s : State) : Result := setBitReg 4 .b s

/-- `SET 4,C` (R360). -/
def execSet4_C (s : State) : Result := setBitReg 4 .c s

/-- `SET 4,D` (R360). -/
def execSet4_D (s : State) : Result := setBitReg 4 .d s

/-- `SET 4,E` (R360). -/
def execSet4_E (s : State) : Result := setBitReg 4 .e s

/-- `SET 4,H` (R360). -/
def execSet4_H (s : State) : Result := setBitReg 4 .h s

/-- `SET 4,L` (R360). -/
def execSet4_L (s : State) : Result := setBitReg 4 .l s

/-- `SET 4,(HL)` (R361). -/
def execSet4_MemHL (s : State) : Result := setBitMem 4 s

/-- `SET 4,A` (R360). -/
def execSet4_A (s : State) : Result := setBitReg 4 .a s

/-- `SET 5,B` (R360). -/
def execSet5_B (s : State) : Result := setBitReg 5 .b s

/-- `SET 5,C` (R360). -/
def execSet5_C (s : State) : Result := setBitReg 5 .c s

/-- `SET 5,D` (R360). -/
def execSet5_D (s : State) : Result := setBitReg 5 .d s

/-- `SET 5,E` (R360). -/
def execSet5_E (s : State) : Result := setBitReg 5 .e s

/-- `SET 5,H` (R360). -/
def execSet5_H (s : State) : Result := setBitReg 5 .h s

/-- `SET 5,L` (R360). -/
def execSet5_L (s : State) : Result := setBitReg 5 .l s

/-- `SET 5,(HL)` (R361). -/
def execSet5_MemHL (s : State) : Result := setBitMem 5 s

/-- `SET 5,A` (R360). -/
def execSet5_A (s : State) : Result := setBitReg 5 .a s

/-- `SET 6,B` (R360). -/
def execSet6_B (s : State) : Result := setBitReg 6 .b s

/-- `SET 6,C` (R360). -/
def execSet6_C (s : State) : Result := setBitReg 6 .c s

/-- `SET 6,D` (R360). -/
def execSet6_D (s : State) : Result := setBitReg 6 .d s

/-- `SET 6,E` (R360). -/
def execSet6_E (s : State) : Result := setBitReg 6 .e s

/-- `SET 6,H` (R360). -/
def execSet6_H (s : State) : Result := setBitReg 6 .h s

/-- `SET 6,L` (R360). -/
def execSet6_L (s : State) : Result := setBitReg 6 .l s

/-- `SET 6,(HL)` (R361). -/
def execSet6_MemHL (s : State) : Result := setBitMem 6 s

/-- `SET 6,A` (R360). -/
def execSet6_A (s : State) : Result := setBitReg 6 .a s

/-- `SET 7,B` (R360). -/
def execSet7_B (s : State) : Result := setBitReg 7 .b s

/-- `SET 7,C` (R360). -/
def execSet7_C (s : State) : Result := setBitReg 7 .c s

/-- `SET 7,D` (R360). -/
def execSet7_D (s : State) : Result := setBitReg 7 .d s

/-- `SET 7,E` (R360). -/
def execSet7_E (s : State) : Result := setBitReg 7 .e s

/-- `SET 7,H` (R360). -/
def execSet7_H (s : State) : Result := setBitReg 7 .h s

/-- `SET 7,L` (R360). -/
def execSet7_L (s : State) : Result := setBitReg 7 .l s

/-- `SET 7,(HL)` (R361). -/
def execSet7_MemHL (s : State) : Result := setBitMem 7 s

/-- `SET 7,A` (R360). -/
def execSet7_A (s : State) : Result := setBitReg 7 .a s

end Sys2Proof.Machine
end

