-- ==== Sys2Proof/Machine/Boundary.lean ====
section
/-! DEFINITION. What happens from one instruction boundary to the next (40_dispatch.md R140 to R150): the fetches of an
instruction, its execution, the delayed interrupt enable, the Halted steps, and the host's moves (60_exceptions.md
R460, R470; R502). -/

namespace Sys2Proof.Machine

/-- The remaining fetches of an instruction, in ascending addresses, each exactly once (R141, R142). -/
def fetchRest : Decoding → Word → State → (Instr → State → Result) → Result
  | .done i, _, s, next => next i s
  | .more more, a, s, next => fetchByte a s fun v s1 => fetchRest (more v) (a + 1) s1 next

/-- R140, R141: the fetches of the instruction at PC. PC does not move here (R450). -/
def fetchInstr (s : State) (next : Instr → State → Result) : Result :=
  fetchByte s.pc s fun op s1 => fetchRest (decodeFrom op) (s.pc + 1) s1 next

/-- R145: an enable pending at the start of the step and still pending at its end takes effect. -/
def promoteIme (pendingAtStart : Bool) (s : State) : State :=
  if pendingAtStart && s.imePending then s.setIme true false else s

/-- The end of a Running step: R145, unless the step ended at a BusFault, which writes nothing further (R150). -/
def endStep (pendingAtStart : Bool) : Result → Result
  | .next t => .next (if t.fault = none then promoteIme pendingAtStart t else t)
  | .fault r => .fault r
  | .refused r => .refused r

/-- A step that begins in Running (R140). -/
def runningStep (s : State) : Result := endStep s.imePending (fetchInstr s fun i s1 => exec i s1)

/-- A step that begins in Halted (R146): no bus access; a wake costs and reports 0, an idle step 4. -/
def haltedStep (wake : Bool) (s : State) : Result :=
  if wake then .next ((s.setRun .running).report 0) else .next (s.report Config.haltIdleCycles)

/-- `Step(wake, stop_req)` (R140, R148). -/
def coreStep (wake stopReq : Bool) (s : State) : Result :=
  if stopReq then .fault .runEnded
  else match s.run with
    | .running => runningStep s
    | .halted => haltedStep wake s

/-- R45, R451: while a BusFault is recorded the core takes no step. -/
def unlessFaulted (s : State) (r : Result) : Result :=
  match s.fault with
  | none => r
  | some record => .fault (.busFault record)

/-- The host's invocation of interrupt entry (R460); against its precondition it is outside the rules (R470; log 8). -/
def hostEntry (v : Word) (s : State) : Result :=
  if s.entryAllowed then interruptEntry v s else .refused .hostMoveAgainstPrecondition

/-- The host's next move (R470; log 7): when none is pending, a step with wake = 0 and stop_req = 0. -/
def nextMove (s : State) : Result :=
  match s.host with
  | [] => unlessFaulted s (coreStep false false s)
  | .step wake stopReq :: rest => unlessFaulted s (coreStep wake stopReq { s with host := rest })
  | .interruptEntry v :: rest => hostEntry v { s with host := rest }
  | .reset p draw :: rest => .next (({ s with host := rest }).resetTo p draw)

/-- Whether a read of `a` answers what memory holds there (R85). -/
def State.readsPlain (s : State) (a : Word) : Bool :=
  !(s.region a).rejectsReads && decide ((s.region a).backing ≠ .device)

/-- The platform puts byte `v` at `a`, backed by plain memory. -/
def State.placeByte (a : Word) (v : Byte) (s : State) : State :=
  let s1 := { s with mem := memSet s.mem a.toNat v }
  if s.readsPlain a then s1
  else { s1 with busMap := { first := a, last := a, backing := .memory, rejectsReads := false,
                             rejectsWrites := false } :: s1.busMap }

/-- The bytes placed from `a` on. -/
def placeBytes : List Byte → Word → State → State
  | [], _, s => s
  | v :: vs, a, s => placeBytes vs (a + 1) (s.placeByte a v)

/-- A table row's instruction at PC, and the core Running, not faulted, with no host move before its fetch (log 18). -/
def placeFetchWord (s : State) (nbits w : Nat) : State :=
  placeBytes (tableBytes nbits w) s.pc { s with host := [], run := .running, fault := none }

end Sys2Proof.Machine
end

