-- ==== Sys2Proof/Machine/Step.lean ====
section
/-! DEFINITION. The step of the machine, and the host's placing of a table row's instruction at the next fetch. -/

namespace Sys2Proof.Machine

/-- From one instruction boundary to the next (R140, R470). -/
def step (s : State) : Host.Outcome State Fault Refusal := nextMove s

/-- The state `s` with a table row's instruction where the next step fetches. -/
def State.withFetchWord (s : State) (nbits w : Nat) : State := placeFetchWord s nbits w

end Sys2Proof.Machine
end

