-- ==== Sys2Proof/Machine/Table.lean ====
section
/-! DEFINITION. The opcode table as logic: one descriptor for each of the 512 (prefix, byte) values, as
spec/opcode_table.json gives them, and `lookup` (R120). The machine's meanings do not read it; statements hold them
against it. -/

namespace Sys2Proof.Machine

/-- Row 0x of the primary descriptors (R120, R111). -/
def primaryDescriptors0 : List Descriptor :=
  [⟨"NOP", [], 1, 4, none, .none, .kept, .kept, .kept, .kept⟩,
   ⟨"LD BC,d16", [.register16 .bc, .immediateU16], 3, 12, none, .none, .kept, .kept, .kept, .kept⟩,
   ⟨"LD (BC),A", [.indirect .bc, .register8 .a], 1, 8, none, .none, .kept, .kept, .kept, .kept⟩,
   ⟨"INC BC", [.register16 .bc], 1, 8, none, .none, .kept, .kept, .kept, .kept⟩,
   ⟨"INC B", [.register8 .b], 1, 4, none, .none, .computed, .cleared, .computed, .kept⟩,
   ⟨"DEC B", [.register8 .b], 1, 4, none, .none, .computed, .set, .computed, .kept⟩,
   ⟨"LD B,d8", [.register8 .b, .immediateU8], 2, 8, none, .none, .kept, .kept, .kept, .kept⟩,
   ⟨"RLCA", [], 1, 4, none, .none, .cleared, .cleared, .cleared, .computed⟩,
   ⟨"LD (a16),SP", [.indirectA16, .register16 .sp], 3, 20, none, .none, .kept, .kept, .kept, .kept⟩,
   ⟨"ADD HL,BC", [.register16 .hl, .register16 .bc], 1, 8, none, .none, .kept, .cleared, .computed, .computed⟩,
   ⟨"LD A,(BC)", [.register8 .a, .indirect .bc], 1, 8, none, .none, .kept, .kept, .kept, .kept⟩,
   ⟨"DEC BC", [.register16 .bc], 1, 8, none, .none, .kept, .kept, .kept, .kept⟩,
   ⟨"INC C", [.register8 .c], 1, 4, none, .none, .computed, .cleared, .computed, .kept⟩,
   ⟨"DEC C", [.register8 .c], 1, 4, none, .none, .computed, .set, .computed, .kept⟩,
   ⟨"LD C,d8", [.register8 .c, .immediateU8], 2, 8, none, .none, .kept, .kept, .kept, .kept⟩,
   ⟨"RRCA", [], 1, 4, none, .none, .cleared, .cleared, .cleared, .computed⟩]

/-- Row 1x of the primary descriptors (R120, R111). -/
def primaryDescriptors1 : List Descriptor :=
  [⟨"STOP", [.ignoredU8], 2, 4, none, .none, .kept, .kept, .kept, .kept⟩,
   ⟨"LD DE,d16", [.register16 .de, .immediateU16], 3, 12, none, .none, .kept, .kept, .kept, .kept⟩,
   ⟨"LD (DE),A", [.indirect .de, .register8 .a], 1, 8, none, .none, .kept, .kept, .kept, .kept⟩,
   ⟨"INC DE", [.register16 .de], 1, 8, none, .none, .kept, .kept, .kept, .kept⟩,
   ⟨"INC D", [.register8 .d], 1, 4, none, .none, .computed, .cleared, .computed, .kept⟩,
   ⟨"DEC D", [.register8 .d], 1, 4, none, .none, .computed, .set, .computed, .kept⟩,
   ⟨"LD D,d8", [.register8 .d, .immediateU8], 2, 8, none, .none, .kept, .kept, .kept, .kept⟩,
   ⟨"RLA", [], 1, 4, none, .none, .cleared, .cleared, .cleared, .computed⟩,
   ⟨"JR r8", [.immediateI8], 2, 12, none, .none, .kept, .kept, .kept, .kept⟩,
   ⟨"ADD HL,DE", [.register16 .hl, .register16 .de], 1, 8, none, .none, .kept, .cleared, .computed, .computed⟩,
   ⟨"LD A,(DE)", [.register8 .a, .indirect .de], 1, 8, none, .none, .kept, .kept, .kept, .kept⟩,
   ⟨"DEC DE", [.register16 .de], 1, 8, none, .none, .kept, .kept, .kept, .kept⟩,
   ⟨"INC E", [.register8 .e], 1, 4, none, .none, .computed, .cleared, .computed, .kept⟩,
   ⟨"DEC E", [.register8 .e], 1, 4, none, .none, .computed, .set, .computed, .kept⟩,
   ⟨"LD E,d8", [.register8 .e, .immediateU8], 2, 8, none, .none, .kept, .kept, .kept, .kept⟩,
   ⟨"RRA", [], 1, 4, none, .none, .cleared, .cleared, .cleared, .computed⟩]

/-- Row 2x of the primary descriptors (R120, R111). -/
def primaryDescriptors2 : List Descriptor :=
  [⟨"JR NZ,r8", [.flag .nz, .immediateI8], 2, 8, some 12, .none, .kept, .kept, .kept, .kept⟩,
   ⟨"LD HL,d16", [.register16 .hl, .immediateU16], 3, 12, none, .none, .kept, .kept, .kept, .kept⟩,
   ⟨"LD (HL+),A", [.indirect .hl, .register8 .a], 1, 8, none, .increment, .kept, .kept, .kept, .kept⟩,
   ⟨"INC HL", [.register16 .hl], 1, 8, none, .none, .kept, .kept, .kept, .kept⟩,
   ⟨"INC H", [.register8 .h], 1, 4, none, .none, .computed, .cleared, .computed, .kept⟩,
   ⟨"DEC H", [.register8 .h], 1, 4, none, .none, .computed, .set, .computed, .kept⟩,
   ⟨"LD H,d8", [.register8 .h, .immediateU8], 2, 8, none, .none, .kept, .kept, .kept, .kept⟩,
   ⟨"DAA", [], 1, 4, none, .none, .computed, .kept, .cleared, .computed⟩,
   ⟨"JR Z,r8", [.flag .z, .immediateI8], 2, 8, some 12, .none, .kept, .kept, .kept, .kept⟩,
   ⟨"ADD HL,HL", [.register16 .hl, .register16 .hl], 1, 8, none, .none, .kept, .cleared, .computed, .computed⟩,
   ⟨"LD A,(HL+)", [.register8 .a, .indirect .hl], 1, 8, none, .increment, .kept, .kept, .kept, .kept⟩,
   ⟨"DEC HL", [.register16 .hl], 1, 8, none, .none, .kept, .kept, .kept, .kept⟩,
   ⟨"INC L", [.register8 .l], 1, 4, none, .none, .computed, .cleared, .computed, .kept⟩,
   ⟨"DEC L", [.register8 .l], 1, 4, none, .none, .computed, .set, .computed, .kept⟩,
   ⟨"LD L,d8", [.register8 .l, .immediateU8], 2, 8, none, .none, .kept, .kept, .kept, .kept⟩,
   ⟨"CPL", [], 1, 4, none, .none, .kept, .set, .set, .kept⟩]

/-- Row 3x of the primary descriptors (R120, R111). -/
def primaryDescriptors3 : List Descriptor :=
  [⟨"JR NC,r8", [.flag .nc, .immediateI8], 2, 8, some 12, .none, .kept, .kept, .kept, .kept⟩,
   ⟨"LD SP,d16", [.register16 .sp, .immediateU16], 3, 12, none, .none, .kept, .kept, .kept, .kept⟩,
   ⟨"LD (HL-),A", [.indirect .hl, .register8 .a], 1, 8, none, .decrement, .kept, .kept, .kept, .kept⟩,
   ⟨"INC SP", [.register16 .sp], 1, 8, none, .none, .kept, .kept, .kept, .kept⟩,
   ⟨"INC (HL)", [.indirect .hl], 1, 12, none, .none, .computed, .cleared, .computed, .kept⟩,
   ⟨"DEC (HL)", [.indirect .hl], 1, 12, none, .none, .computed, .set, .computed, .kept⟩,
   ⟨"LD (HL),d8", [.indirect .hl, .immediateU8], 2, 12, none, .none, .kept, .kept, .kept, .kept⟩,
   ⟨"SCF", [], 1, 4, none, .none, .kept, .cleared, .cleared, .set⟩,
   ⟨"JR C,r8", [.flag .c, .immediateI8], 2, 8, some 12, .none, .kept, .kept, .kept, .kept⟩,
   ⟨"ADD HL,SP", [.register16 .hl, .register16 .sp], 1, 8, none, .none, .kept, .cleared, .computed, .computed⟩,
   ⟨"LD A,(HL-)", [.register8 .a, .indirect .hl], 1, 8, none, .decrement, .kept, .kept, .kept, .kept⟩,
   ⟨"DEC SP", [.register16 .sp], 1, 8, none, .none, .kept, .kept, .kept, .kept⟩,
   ⟨"INC A", [.register8 .a], 1, 4, none, .none, .computed, .cleared, .computed, .kept⟩,
   ⟨"DEC A", [.register8 .a], 1, 4, none, .none, .computed, .set, .computed, .kept⟩,
   ⟨"LD A,d8", [.register8 .a, .immediateU8], 2, 8, none, .none, .kept, .kept, .kept, .kept⟩,
   ⟨"CCF", [], 1, 4, none, .none, .kept, .cleared, .cleared, .computed⟩]

/-- Row 4x of the primary descriptors (R120, R111). -/
def primaryDescriptors4 : List Descriptor :=
  [⟨"LD B,B", [.register8 .b, .register8 .b], 1, 4, none, .none, .kept, .kept, .kept, .kept⟩,
   ⟨"LD B,C", [.register8 .b, .register8 .c], 1, 4, none, .none, .kept, .kept, .kept, .kept⟩,
   ⟨"LD B,D", [.register8 .b, .register8 .d], 1, 4, none, .none, .kept, .kept, .kept, .kept⟩,
   ⟨"LD B,E", [.register8 .b, .register8 .e], 1, 4, none, .none, .kept, .kept, .kept, .kept⟩,
   ⟨"LD B,H", [.register8 .b, .register8 .h], 1, 4, none, .none, .kept, .kept, .kept, .kept⟩,
   ⟨"LD B,L", [.register8 .b, .register8 .l], 1, 4, none, .none, .kept, .kept, .kept, .kept⟩,
   ⟨"LD B,(HL)", [.register8 .b, .indirect .hl], 1, 8, none, .none, .kept, .kept, .kept, .kept⟩,
   ⟨"LD B,A", [.register8 .b, .register8 .a], 1, 4, none, .none, .kept, .kept, .kept, .kept⟩,
   ⟨"LD C,B", [.register8 .c, .register8 .b], 1, 4, none, .none, .kept, .kept, .kept, .kept⟩,
   ⟨"LD C,C", [.register8 .c, .register8 .c], 1, 4, none, .none, .kept, .kept, .kept, .kept⟩,
   ⟨"LD C,D", [.register8 .c, .register8 .d], 1, 4, none, .none, .kept, .kept, .kept, .kept⟩,
   ⟨"LD C,E", [.register8 .c, .register8 .e], 1, 4, none, .none, .kept, .kept, .kept, .kept⟩,
   ⟨"LD C,H", [.register8 .c, .register8 .h], 1, 4, none, .none, .kept, .kept, .kept, .kept⟩,
   ⟨"LD C,L", [.register8 .c, .register8 .l], 1, 4, none, .none, .kept, .kept, .kept, .kept⟩,
   ⟨"LD C,(HL)", [.register8 .c, .indirect .hl], 1, 8, none, .none, .kept, .kept, .kept, .kept⟩,
   ⟨"LD C,A", [.register8 .c, .register8 .a], 1, 4, none, .none, .kept, .kept, .kept, .kept⟩]

/-- Row 5x of the primary descriptors (R120, R111). -/
def primaryDescriptors5 : List Descriptor :=
  [⟨"LD D,B", [.register8 .d, .register8 .b], 1, 4, none, .none, .kept, .kept, .kept, .kept⟩,
   ⟨"LD D,C", [.register8 .d, .register8 .c], 1, 4, none, .none, .kept, .kept, .kept, .kept⟩,
   ⟨"LD D,D", [.register8 .d, .register8 .d], 1, 4, none, .none, .kept, .kept, .kept, .kept⟩,
   ⟨"LD D,E", [.register8 .d, .register8 .e], 1, 4, none, .none, .kept, .kept, .kept, .kept⟩,
   ⟨"LD D,H", [.register8 .d, .register8 .h], 1, 4, none, .none, .kept, .kept, .kept, .kept⟩,
   ⟨"LD D,L", [.register8 .d, .register8 .l], 1, 4, none, .none, .kept, .kept, .kept, .kept⟩,
   ⟨"LD D,(HL)", [.register8 .d, .indirect .hl], 1, 8, none, .none, .kept, .kept, .kept, .kept⟩,
   ⟨"LD D,A", [.register8 .d, .register8 .a], 1, 4, none, .none, .kept, .kept, .kept, .kept⟩,
   ⟨"LD E,B", [.register8 .e, .register8 .b], 1, 4, none, .none, .kept, .kept, .kept, .kept⟩,
   ⟨"LD E,C", [.register8 .e, .register8 .c], 1, 4, none, .none, .kept, .kept, .kept, .kept⟩,
   ⟨"LD E,D", [.register8 .e, .register8 .d], 1, 4, none, .none, .kept, .kept, .kept, .kept⟩,
   ⟨"LD E,E", [.register8 .e, .register8 .e], 1, 4, none, .none, .kept, .kept, .kept, .kept⟩,
   ⟨"LD E,H", [.register8 .e, .register8 .h], 1, 4, none, .none, .kept, .kept, .kept, .kept⟩,
   ⟨"LD E,L", [.register8 .e, .register8 .l], 1, 4, none, .none, .kept, .kept, .kept, .kept⟩,
   ⟨"LD E,(HL)", [.register8 .e, .indirect .hl], 1, 8, none, .none, .kept, .kept, .kept, .kept⟩,
   ⟨"LD E,A", [.register8 .e, .register8 .a], 1, 4, none, .none, .kept, .kept, .kept, .kept⟩]

/-- Row 6x of the primary descriptors (R120, R111). -/
def primaryDescriptors6 : List Descriptor :=
  [⟨"LD H,B", [.register8 .h, .register8 .b], 1, 4, none, .none, .kept, .kept, .kept, .kept⟩,
   ⟨"LD H,C", [.register8 .h, .register8 .c], 1, 4, none, .none, .kept, .kept, .kept, .kept⟩,
   ⟨"LD H,D", [.register8 .h, .register8 .d], 1, 4, none, .none, .kept, .kept, .kept, .kept⟩,
   ⟨"LD H,E", [.register8 .h, .register8 .e], 1, 4, none, .none, .kept, .kept, .kept, .kept⟩,
   ⟨"LD H,H", [.register8 .h, .register8 .h], 1, 4, none, .none, .kept, .kept, .kept, .kept⟩,
   ⟨"LD H,L", [.register8 .h, .register8 .l], 1, 4, none, .none, .kept, .kept, .kept, .kept⟩,
   ⟨"LD H,(HL)", [.register8 .h, .indirect .hl], 1, 8, none, .none, .kept, .kept, .kept, .kept⟩,
   ⟨"LD H,A", [.register8 .h, .register8 .a], 1, 4, none, .none, .kept, .kept, .kept, .kept⟩,
   ⟨"LD L,B", [.register8 .l, .register8 .b], 1, 4, none, .none, .kept, .kept, .kept, .kept⟩,
   ⟨"LD L,C", [.register8 .l, .register8 .c], 1, 4, none, .none, .kept, .kept, .kept, .kept⟩,
   ⟨"LD L,D", [.register8 .l, .register8 .d], 1, 4, none, .none, .kept, .kept, .kept, .kept⟩,
   ⟨"LD L,E", [.register8 .l, .register8 .e], 1, 4, none, .none, .kept, .kept, .kept, .kept⟩,
   ⟨"LD L,H", [.register8 .l, .register8 .h], 1, 4, none, .none, .kept, .kept, .kept, .kept⟩,
   ⟨"LD L,L", [.register8 .l, .register8 .l], 1, 4, none, .none, .kept, .kept, .kept, .kept⟩,
   ⟨"LD L,(HL)", [.register8 .l, .indirect .hl], 1, 8, none, .none, .kept, .kept, .kept, .kept⟩,
   ⟨"LD L,A", [.register8 .l, .register8 .a], 1, 4, none, .none, .kept, .kept, .kept, .kept⟩]

/-- Row 7x of the primary descriptors (R120, R111). -/
def primaryDescriptors7 : List Descriptor :=
  [⟨"LD (HL),B", [.indirect .hl, .register8 .b], 1, 8, none, .none, .kept, .kept, .kept, .kept⟩,
   ⟨"LD (HL),C", [.indirect .hl, .register8 .c], 1, 8, none, .none, .kept, .kept, .kept, .kept⟩,
   ⟨"LD (HL),D", [.indirect .hl, .register8 .d], 1, 8, none, .none, .kept, .kept, .kept, .kept⟩,
   ⟨"LD (HL),E", [.indirect .hl, .register8 .e], 1, 8, none, .none, .kept, .kept, .kept, .kept⟩,
   ⟨"LD (HL),H", [.indirect .hl, .register8 .h], 1, 8, none, .none, .kept, .kept, .kept, .kept⟩,
   ⟨"LD (HL),L", [.indirect .hl, .register8 .l], 1, 8, none, .none, .kept, .kept, .kept, .kept⟩,
   ⟨"HALT", [], 1, 4, none, .none, .kept, .kept, .kept, .kept⟩,
   ⟨"LD (HL),A", [.indirect .hl, .register8 .a], 1, 8, none, .none, .kept, .kept, .kept, .kept⟩,
   ⟨"LD A,B", [.register8 .a, .register8 .b], 1, 4, none, .none, .kept, .kept, .kept, .kept⟩,
   ⟨"LD A,C", [.register8 .a, .register8 .c], 1, 4, none, .none, .kept, .kept, .kept, .kept⟩,
   ⟨"LD A,D", [.register8 .a, .register8 .d], 1, 4, none, .none, .kept, .kept, .kept, .kept⟩,
   ⟨"LD A,E", [.register8 .a, .register8 .e], 1, 4, none, .none, .kept, .kept, .kept, .kept⟩,
   ⟨"LD A,H", [.register8 .a, .register8 .h], 1, 4, none, .none, .kept, .kept, .kept, .kept⟩,
   ⟨"LD A,L", [.register8 .a, .register8 .l], 1, 4, none, .none, .kept, .kept, .kept, .kept⟩,
   ⟨"LD A,(HL)", [.register8 .a, .indirect .hl], 1, 8, none, .none, .kept, .kept, .kept, .kept⟩,
   ⟨"LD A,A", [.register8 .a, .register8 .a], 1, 4, none, .none, .kept, .kept, .kept, .kept⟩]

/-- Row 8x of the primary descriptors (R120, R111). -/
def primaryDescriptors8 : List Descriptor :=
  [⟨"ADD A,B", [.register8 .a, .register8 .b], 1, 4, none, .none, .computed, .cleared, .computed, .computed⟩,
   ⟨"ADD A,C", [.register8 .a, .register8 .c], 1, 4, none, .none, .computed, .cleared, .computed, .computed⟩,
   ⟨"ADD A,D", [.register8 .a, .register8 .d], 1, 4, none, .none, .computed, .cleared, .computed, .computed⟩,
   ⟨"ADD A,E", [.register8 .a, .register8 .e], 1, 4, none, .none, .computed, .cleared, .computed, .computed⟩,
   ⟨"ADD A,H", [.register8 .a, .register8 .h], 1, 4, none, .none, .computed, .cleared, .computed, .computed⟩,
   ⟨"ADD A,L", [.register8 .a, .register8 .l], 1, 4, none, .none, .computed, .cleared, .computed, .computed⟩,
   ⟨"ADD A,(HL)", [.register8 .a, .indirect .hl], 1, 8, none, .none, .computed, .cleared, .computed, .computed⟩,
   ⟨"ADD A,A", [.register8 .a, .register8 .a], 1, 4, none, .none, .computed, .cleared, .computed, .computed⟩,
   ⟨"ADC A,B", [.register8 .a, .register8 .b], 1, 4, none, .none, .computed, .cleared, .computed, .computed⟩,
   ⟨"ADC A,C", [.register8 .a, .register8 .c], 1, 4, none, .none, .computed, .cleared, .computed, .computed⟩,
   ⟨"ADC A,D", [.register8 .a, .register8 .d], 1, 4, none, .none, .computed, .cleared, .computed, .computed⟩,
   ⟨"ADC A,E", [.register8 .a, .register8 .e], 1, 4, none, .none, .computed, .cleared, .computed, .computed⟩,
   ⟨"ADC A,H", [.register8 .a, .register8 .h], 1, 4, none, .none, .computed, .cleared, .computed, .computed⟩,
   ⟨"ADC A,L", [.register8 .a, .register8 .l], 1, 4, none, .none, .computed, .cleared, .computed, .computed⟩,
   ⟨"ADC A,(HL)", [.register8 .a, .indirect .hl], 1, 8, none, .none, .computed, .cleared, .computed, .computed⟩,
   ⟨"ADC A,A", [.register8 .a, .register8 .a], 1, 4, none, .none, .computed, .cleared, .computed, .computed⟩]

/-- Row 9x of the primary descriptors (R120, R111). -/
def primaryDescriptors9 : List Descriptor :=
  [⟨"SUB B", [.register8 .b], 1, 4, none, .none, .computed, .set, .computed, .computed⟩,
   ⟨"SUB C", [.register8 .c], 1, 4, none, .none, .computed, .set, .computed, .computed⟩,
   ⟨"SUB D", [.register8 .d], 1, 4, none, .none, .computed, .set, .computed, .computed⟩,
   ⟨"SUB E", [.register8 .e], 1, 4, none, .none, .computed, .set, .computed, .computed⟩,
   ⟨"SUB H", [.register8 .h], 1, 4, none, .none, .computed, .set, .computed, .computed⟩,
   ⟨"SUB L", [.register8 .l], 1, 4, none, .none, .computed, .set, .computed, .computed⟩,
   ⟨"SUB (HL)", [.indirect .hl], 1, 8, none, .none, .computed, .set, .computed, .computed⟩,
   ⟨"SUB A", [.register8 .a], 1, 4, none, .none, .computed, .set, .computed, .computed⟩,
   ⟨"SBC A,B", [.register8 .a, .register8 .b], 1, 4, none, .none, .computed, .set, .computed, .computed⟩,
   ⟨"SBC A,C", [.register8 .a, .register8 .c], 1, 4, none, .none, .computed, .set, .computed, .computed⟩,
   ⟨"SBC A,D", [.register8 .a, .register8 .d], 1, 4, none, .none, .computed, .set, .computed, .computed⟩,
   ⟨"SBC A,E", [.register8 .a, .register8 .e], 1, 4, none, .none, .computed, .set, .computed, .computed⟩,
   ⟨"SBC A,H", [.register8 .a, .register8 .h], 1, 4, none, .none, .computed, .set, .computed, .computed⟩,
   ⟨"SBC A,L", [.register8 .a, .register8 .l], 1, 4, none, .none, .computed, .set, .computed, .computed⟩,
   ⟨"SBC A,(HL)", [.register8 .a, .indirect .hl], 1, 8, none, .none, .computed, .set, .computed, .computed⟩,
   ⟨"SBC A,A", [.register8 .a, .register8 .a], 1, 4, none, .none, .computed, .set, .computed, .computed⟩]

/-- Row Ax of the primary descriptors (R120, R111). -/
def primaryDescriptorsA : List Descriptor :=
  [⟨"AND B", [.register8 .b], 1, 4, none, .none, .computed, .cleared, .set, .cleared⟩,
   ⟨"AND C", [.register8 .c], 1, 4, none, .none, .computed, .cleared, .set, .cleared⟩,
   ⟨"AND D", [.register8 .d], 1, 4, none, .none, .computed, .cleared, .set, .cleared⟩,
   ⟨"AND E", [.register8 .e], 1, 4, none, .none, .computed, .cleared, .set, .cleared⟩,
   ⟨"AND H", [.register8 .h], 1, 4, none, .none, .computed, .cleared, .set, .cleared⟩,
   ⟨"AND L", [.register8 .l], 1, 4, none, .none, .computed, .cleared, .set, .cleared⟩,
   ⟨"AND (HL)", [.indirect .hl], 1, 8, none, .none, .computed, .cleared, .set, .cleared⟩,
   ⟨"AND A", [.register8 .a], 1, 4, none, .none, .computed, .cleared, .set, .cleared⟩,
   ⟨"XOR B", [.register8 .b], 1, 4, none, .none, .computed, .cleared, .cleared, .cleared⟩,
   ⟨"XOR C", [.register8 .c], 1, 4, none, .none, .computed, .cleared, .cleared, .cleared⟩,
   ⟨"XOR D", [.register8 .d], 1, 4, none, .none, .computed, .cleared, .cleared, .cleared⟩,
   ⟨"XOR E", [.register8 .e], 1, 4, none, .none, .computed, .cleared, .cleared, .cleared⟩,
   ⟨"XOR H", [.register8 .h], 1, 4, none, .none, .computed, .cleared, .cleared, .cleared⟩,
   ⟨"XOR L", [.register8 .l], 1, 4, none, .none, .computed, .cleared, .cleared, .cleared⟩,
   ⟨"XOR (HL)", [.indirect .hl], 1, 8, none, .none, .computed, .cleared, .cleared, .cleared⟩,
   ⟨"XOR A", [.register8 .a], 1, 4, none, .none, .computed, .cleared, .cleared, .cleared⟩]

/-- Row Bx of the primary descriptors (R120, R111). -/
def primaryDescriptorsB : List Descriptor :=
  [⟨"OR B", [.register8 .b], 1, 4, none, .none, .computed, .cleared, .cleared, .cleared⟩,
   ⟨"OR C", [.register8 .c], 1, 4, none, .none, .computed, .cleared, .cleared, .cleared⟩,
   ⟨"OR D", [.register8 .d], 1, 4, none, .none, .computed, .cleared, .cleared, .cleared⟩,
   ⟨"OR E", [.register8 .e], 1, 4, none, .none, .computed, .cleared, .cleared, .cleared⟩,
   ⟨"OR H", [.register8 .h], 1, 4, none, .none, .computed, .cleared, .cleared, .cleared⟩,
   ⟨"OR L", [.register8 .l], 1, 4, none, .none, .computed, .cleared, .cleared, .cleared⟩,
   ⟨"OR (HL)", [.indirect .hl], 1, 8, none, .none, .computed, .cleared, .cleared, .cleared⟩,
   ⟨"OR A", [.register8 .a], 1, 4, none, .none, .computed, .cleared, .cleared, .cleared⟩,
   ⟨"CP B", [.register8 .b], 1, 4, none, .none, .computed, .set, .computed, .computed⟩,
   ⟨"CP C", [.register8 .c], 1, 4, none, .none, .computed, .set, .computed, .computed⟩,
   ⟨"CP D", [.register8 .d], 1, 4, none, .none, .computed, .set, .computed, .computed⟩,
   ⟨"CP E", [.register8 .e], 1, 4, none, .none, .computed, .set, .computed, .computed⟩,
   ⟨"CP H", [.register8 .h], 1, 4, none, .none, .computed, .set, .computed, .computed⟩,
   ⟨"CP L", [.register8 .l], 1, 4, none, .none, .computed, .set, .computed, .computed⟩,
   ⟨"CP (HL)", [.indirect .hl], 1, 8, none, .none, .computed, .set, .computed, .computed⟩,
   ⟨"CP A", [.register8 .a], 1, 4, none, .none, .computed, .set, .computed, .computed⟩]

/-- Row Cx of the primary descriptors (R120, R111). -/
def primaryDescriptorsC : List Descriptor :=
  [⟨"RET NZ", [.flag .nz], 1, 8, some 20, .none, .kept, .kept, .kept, .kept⟩,
   ⟨"POP BC", [.register16 .bc], 1, 12, none, .none, .kept, .kept, .kept, .kept⟩,
   ⟨"JP NZ,a16", [.flag .nz, .immediateU16], 3, 12, some 16, .none, .kept, .kept, .kept, .kept⟩,
   ⟨"JP a16", [.immediateU16], 3, 16, none, .none, .kept, .kept, .kept, .kept⟩,
   ⟨"CALL NZ,a16", [.flag .nz, .immediateU16], 3, 12, some 24, .none, .kept, .kept, .kept, .kept⟩,
   ⟨"PUSH BC", [.register16 .bc], 1, 16, none, .none, .kept, .kept, .kept, .kept⟩,
   ⟨"ADD A,d8", [.register8 .a, .immediateU8], 2, 8, none, .none, .computed, .cleared, .computed, .computed⟩,
   ⟨"RST 00H", [.restartVector 0x00], 1, 16, none, .none, .kept, .kept, .kept, .kept⟩,
   ⟨"RET Z", [.flag .z], 1, 8, some 20, .none, .kept, .kept, .kept, .kept⟩,
   ⟨"RET", [], 1, 16, none, .none, .kept, .kept, .kept, .kept⟩,
   ⟨"JP Z,a16", [.flag .z, .immediateU16], 3, 12, some 16, .none, .kept, .kept, .kept, .kept⟩,
   ⟨"PREFIX CB", [], 1, 4, none, .none, .kept, .kept, .kept, .kept⟩,
   ⟨"CALL Z,a16", [.flag .z, .immediateU16], 3, 12, some 24, .none, .kept, .kept, .kept, .kept⟩,
   ⟨"CALL a16", [.immediateU16], 3, 24, none, .none, .kept, .kept, .kept, .kept⟩,
   ⟨"ADC A,d8", [.register8 .a, .immediateU8], 2, 8, none, .none, .computed, .cleared, .computed, .computed⟩,
   ⟨"RST 08H", [.restartVector 0x08], 1, 16, none, .none, .kept, .kept, .kept, .kept⟩]

/-- Row Dx of the primary descriptors (R120, R111). -/
def primaryDescriptorsD : List Descriptor :=
  [⟨"RET NC", [.flag .nc], 1, 8, some 20, .none, .kept, .kept, .kept, .kept⟩,
   ⟨"POP DE", [.register16 .de], 1, 12, none, .none, .kept, .kept, .kept, .kept⟩,
   ⟨"JP NC,a16", [.flag .nc, .immediateU16], 3, 12, some 16, .none, .kept, .kept, .kept, .kept⟩,
   ⟨"ILLEGAL_D3", [], 1, 4, none, .none, .kept, .kept, .kept, .kept⟩,
   ⟨"CALL NC,a16", [.flag .nc, .immediateU16], 3, 12, some 24, .none, .kept, .kept, .kept, .kept⟩,
   ⟨"PUSH DE", [.register16 .de], 1, 16, none, .none, .kept, .kept, .kept, .kept⟩,
   ⟨"SUB d8", [.immediateU8], 2, 8, none, .none, .computed, .set, .computed, .computed⟩,
   ⟨"RST 10H", [.restartVector 0x10], 1, 16, none, .none, .kept, .kept, .kept, .kept⟩,
   ⟨"RET C", [.flag .c], 1, 8, some 20, .none, .kept, .kept, .kept, .kept⟩,
   ⟨"RETI", [], 1, 16, none, .none, .kept, .kept, .kept, .kept⟩,
   ⟨"JP C,a16", [.flag .c, .immediateU16], 3, 12, some 16, .none, .kept, .kept, .kept, .kept⟩,
   ⟨"ILLEGAL_DB", [], 1, 4, none, .none, .kept, .kept, .kept, .kept⟩,
   ⟨"CALL C,a16", [.flag .c, .immediateU16], 3, 12, some 24, .none, .kept, .kept, .kept, .kept⟩,
   ⟨"ILLEGAL_DD", [], 1, 4, none, .none, .kept, .kept, .kept, .kept⟩,
   ⟨"SBC A,d8", [.register8 .a, .immediateU8], 2, 8, none, .none, .computed, .set, .computed, .computed⟩,
   ⟨"RST 18H", [.restartVector 0x18], 1, 16, none, .none, .kept, .kept, .kept, .kept⟩]

/-- Row Ex of the primary descriptors (R120, R111). -/
def primaryDescriptorsE : List Descriptor :=
  [⟨"LDH (a8),A", [.indirectHighA8, .register8 .a], 2, 12, none, .none, .kept, .kept, .kept, .kept⟩,
   ⟨"POP HL", [.register16 .hl], 1, 12, none, .none, .kept, .kept, .kept, .kept⟩,
   ⟨"LD (C),A", [.indirectHighC, .register8 .a], 1, 8, none, .none, .kept, .kept, .kept, .kept⟩,
   ⟨"ILLEGAL_E3", [], 1, 4, none, .none, .kept, .kept, .kept, .kept⟩,
   ⟨"ILLEGAL_E4", [], 1, 4, none, .none, .kept, .kept, .kept, .kept⟩,
   ⟨"PUSH HL", [.register16 .hl], 1, 16, none, .none, .kept, .kept, .kept, .kept⟩,
   ⟨"AND d8", [.immediateU8], 2, 8, none, .none, .computed, .cleared, .set, .cleared⟩,
   ⟨"RST 20H", [.restartVector 0x20], 1, 16, none, .none, .kept, .kept, .kept, .kept⟩,
   ⟨"ADD SP,r8", [.register16 .sp, .immediateI8], 2, 16, none, .none, .cleared, .cleared, .computed, .computed⟩,
   ⟨"JP HL", [.register16 .hl], 1, 4, none, .none, .kept, .kept, .kept, .kept⟩,
   ⟨"LD (a16),A", [.indirectA16, .register8 .a], 3, 16, none, .none, .kept, .kept, .kept, .kept⟩,
   ⟨"ILLEGAL_EB", [], 1, 4, none, .none, .kept, .kept, .kept, .kept⟩,
   ⟨"ILLEGAL_EC", [], 1, 4, none, .none, .kept, .kept, .kept, .kept⟩,
   ⟨"ILLEGAL_ED", [], 1, 4, none, .none, .kept, .kept, .kept, .kept⟩,
   ⟨"XOR d8", [.immediateU8], 2, 8, none, .none, .computed, .cleared, .cleared, .cleared⟩,
   ⟨"RST 28H", [.restartVector 0x28], 1, 16, none, .none, .kept, .kept, .kept, .kept⟩]

/-- Row Fx of the primary descriptors (R120, R111). -/
def primaryDescriptorsF : List Descriptor :=
  [⟨"LDH A,(a8)", [.register8 .a, .indirectHighA8], 2, 12, none, .none, .kept, .kept, .kept, .kept⟩,
   ⟨"POP AF", [.register16 .af], 1, 12, none, .none, .computed, .computed, .computed, .computed⟩,
   ⟨"LD A,(C)", [.register8 .a, .indirectHighC], 1, 8, none, .none, .kept, .kept, .kept, .kept⟩,
   ⟨"DI", [], 1, 4, none, .none, .kept, .kept, .kept, .kept⟩,
   ⟨"ILLEGAL_F4", [], 1, 4, none, .none, .kept, .kept, .kept, .kept⟩,
   ⟨"PUSH AF", [.register16 .af], 1, 16, none, .none, .kept, .kept, .kept, .kept⟩,
   ⟨"OR d8", [.immediateU8], 2, 8, none, .none, .computed, .cleared, .cleared, .cleared⟩,
   ⟨"RST 30H", [.restartVector 0x30], 1, 16, none, .none, .kept, .kept, .kept, .kept⟩,
   ⟨"LD HL,SP+r8", [.register16 .hl, .register16 .sp, .immediateI8], 2, 12, none, .none, .cleared, .cleared, .computed, .computed⟩,
   ⟨"LD SP,HL", [.register16 .sp, .register16 .hl], 1, 8, none, .none, .kept, .kept, .kept, .kept⟩,
   ⟨"LD A,(a16)", [.register8 .a, .indirectA16], 3, 16, none, .none, .kept, .kept, .kept, .kept⟩,
   ⟨"EI", [], 1, 4, none, .none, .kept, .kept, .kept, .kept⟩,
   ⟨"ILLEGAL_FC", [], 1, 4, none, .none, .kept, .kept, .kept, .kept⟩,
   ⟨"ILLEGAL_FD", [], 1, 4, none, .none, .kept, .kept, .kept, .kept⟩,
   ⟨"CP d8", [.immediateU8], 2, 8, none, .none, .computed, .set, .computed, .computed⟩,
   ⟨"RST 38H", [.restartVector 0x38], 1, 16, none, .none, .kept, .kept, .kept, .kept⟩]

/-- The 256 primary descriptors (R120). -/
def primaryDescriptors : List (List Descriptor) :=
  [primaryDescriptors0, primaryDescriptors1, primaryDescriptors2, primaryDescriptors3,
   primaryDescriptors4, primaryDescriptors5, primaryDescriptors6, primaryDescriptors7,
   primaryDescriptors8, primaryDescriptors9, primaryDescriptorsA, primaryDescriptorsB,
   primaryDescriptorsC, primaryDescriptorsD, primaryDescriptorsE, primaryDescriptorsF]

/-- Row 0x of the CB-prefixed descriptors (R120, R114). -/
def cbDescriptors0 : List Descriptor :=
  [⟨"RLC B", [.register8 .b], 2, 8, none, .none, .computed, .cleared, .cleared, .computed⟩,
   ⟨"RLC C", [.register8 .c], 2, 8, none, .none, .computed, .cleared, .cleared, .computed⟩,
   ⟨"RLC D", [.register8 .d], 2, 8, none, .none, .computed, .cleared, .cleared, .computed⟩,
   ⟨"RLC E", [.register8 .e], 2, 8, none, .none, .computed, .cleared, .cleared, .computed⟩,
   ⟨"RLC H", [.register8 .h], 2, 8, none, .none, .computed, .cleared, .cleared, .computed⟩,
   ⟨"RLC L", [.register8 .l], 2, 8, none, .none, .computed, .cleared, .cleared, .computed⟩,
   ⟨"RLC (HL)", [.indirect .hl], 2, 16, none, .none, .computed, .cleared, .cleared, .computed⟩,
   ⟨"RLC A", [.register8 .a], 2, 8, none, .none, .computed, .cleared, .cleared, .computed⟩,
   ⟨"RRC B", [.register8 .b], 2, 8, none, .none, .computed, .cleared, .cleared, .computed⟩,
   ⟨"RRC C", [.register8 .c], 2, 8, none, .none, .computed, .cleared, .cleared, .computed⟩,
   ⟨"RRC D", [.register8 .d], 2, 8, none, .none, .computed, .cleared, .cleared, .computed⟩,
   ⟨"RRC E", [.register8 .e], 2, 8, none, .none, .computed, .cleared, .cleared, .computed⟩,
   ⟨"RRC H", [.register8 .h], 2, 8, none, .none, .computed, .cleared, .cleared, .computed⟩,
   ⟨"RRC L", [.register8 .l], 2, 8, none, .none, .computed, .cleared, .cleared, .computed⟩,
   ⟨"RRC (HL)", [.indirect .hl], 2, 16, none, .none, .computed, .cleared, .cleared, .computed⟩,
   ⟨"RRC A", [.register8 .a], 2, 8, none, .none, .computed, .cleared, .cleared, .computed⟩]

/-- Row 1x of the CB-prefixed descriptors (R120, R114). -/
def cbDescriptors1 : List Descriptor :=
  [⟨"RL B", [.register8 .b], 2, 8, none, .none, .computed, .cleared, .cleared, .computed⟩,
   ⟨"RL C", [.register8 .c], 2, 8, none, .none, .computed, .cleared, .cleared, .computed⟩,
   ⟨"RL D", [.register8 .d], 2, 8, none, .none, .computed, .cleared, .cleared, .computed⟩,
   ⟨"RL E", [.register8 .e], 2, 8, none, .none, .computed, .cleared, .cleared, .computed⟩,
   ⟨"RL H", [.register8 .h], 2, 8, none, .none, .computed, .cleared, .cleared, .computed⟩,
   ⟨"RL L", [.register8 .l], 2, 8, none, .none, .computed, .cleared, .cleared, .computed⟩,
   ⟨"RL (HL)", [.indirect .hl], 2, 16, none, .none, .computed, .cleared, .cleared, .computed⟩,
   ⟨"RL A", [.register8 .a], 2, 8, none, .none, .computed, .cleared, .cleared, .computed⟩,
   ⟨"RR B", [.register8 .b], 2, 8, none, .none, .computed, .cleared, .cleared, .computed⟩,
   ⟨"RR C", [.register8 .c], 2, 8, none, .none, .computed, .cleared, .cleared, .computed⟩,
   ⟨"RR D", [.register8 .d], 2, 8, none, .none, .computed, .cleared, .cleared, .computed⟩,
   ⟨"RR E", [.register8 .e], 2, 8, none, .none, .computed, .cleared, .cleared, .computed⟩,
   ⟨"RR H", [.register8 .h], 2, 8, none, .none, .computed, .cleared, .cleared, .computed⟩,
   ⟨"RR L", [.register8 .l], 2, 8, none, .none, .computed, .cleared, .cleared, .computed⟩,
   ⟨"RR (HL)", [.indirect .hl], 2, 16, none, .none, .computed, .cleared, .cleared, .computed⟩,
   ⟨"RR A", [.register8 .a], 2, 8, none, .none, .computed, .cleared, .cleared, .computed⟩]

/-- Row 2x of the CB-prefixed descriptors (R120, R114). -/
def cbDescriptors2 : List Descriptor :=
  [⟨"SLA B", [.register8 .b], 2, 8, none, .none, .computed, .cleared, .cleared, .computed⟩,
   ⟨"SLA C", [.register8 .c], 2, 8, none, .none, .computed, .cleared, .cleared, .computed⟩,
   ⟨"SLA D", [.register8 .d], 2, 8, none, .none, .computed, .cleared, .cleared, .computed⟩,
   ⟨"SLA E", [.register8 .e], 2, 8, none, .none, .computed, .cleared, .cleared, .computed⟩,
   ⟨"SLA H", [.register8 .h], 2, 8, none, .none, .computed, .cleared, .cleared, .computed⟩,
   ⟨"SLA L", [.register8 .l], 2, 8, none, .none, .computed, .cleared, .cleared, .computed⟩,
   ⟨"SLA (HL)", [.indirect .hl], 2, 16, none, .none, .computed, .cleared, .cleared, .computed⟩,
   ⟨"SLA A", [.register8 .a], 2, 8, none, .none, .computed, .cleared, .cleared, .computed⟩,
   ⟨"SRA B", [.register8 .b], 2, 8, none, .none, .computed, .cleared, .cleared, .computed⟩,
   ⟨"SRA C", [.register8 .c], 2, 8, none, .none, .computed, .cleared, .cleared, .computed⟩,
   ⟨"SRA D", [.register8 .d], 2, 8, none, .none, .computed, .cleared, .cleared, .computed⟩,
   ⟨"SRA E", [.register8 .e], 2, 8, none, .none, .computed, .cleared, .cleared, .computed⟩,
   ⟨"SRA H", [.register8 .h], 2, 8, none, .none, .computed, .cleared, .cleared, .computed⟩,
   ⟨"SRA L", [.register8 .l], 2, 8, none, .none, .computed, .cleared, .cleared, .computed⟩,
   ⟨"SRA (HL)", [.indirect .hl], 2, 16, none, .none, .computed, .cleared, .cleared, .computed⟩,
   ⟨"SRA A", [.register8 .a], 2, 8, none, .none, .computed, .cleared, .cleared, .computed⟩]

/-- Row 3x of the CB-prefixed descriptors (R120, R114). -/
def cbDescriptors3 : List Descriptor :=
  [⟨"SWAP B", [.register8 .b], 2, 8, none, .none, .computed, .cleared, .cleared, .cleared⟩,
   ⟨"SWAP C", [.register8 .c], 2, 8, none, .none, .computed, .cleared, .cleared, .cleared⟩,
   ⟨"SWAP D", [.register8 .d], 2, 8, none, .none, .computed, .cleared, .cleared, .cleared⟩,
   ⟨"SWAP E", [.register8 .e], 2, 8, none, .none, .computed, .cleared, .cleared, .cleared⟩,
   ⟨"SWAP H", [.register8 .h], 2, 8, none, .none, .computed, .cleared, .cleared, .cleared⟩,
   ⟨"SWAP L", [.register8 .l], 2, 8, none, .none, .computed, .cleared, .cleared, .cleared⟩,
   ⟨"SWAP (HL)", [.indirect .hl], 2, 16, none, .none, .computed, .cleared, .cleared, .cleared⟩,
   ⟨"SWAP A", [.register8 .a], 2, 8, none, .none, .computed, .cleared, .cleared, .cleared⟩,
   ⟨"SRL B", [.register8 .b], 2, 8, none, .none, .computed, .cleared, .cleared, .computed⟩,
   ⟨"SRL C", [.register8 .c], 2, 8, none, .none, .computed, .cleared, .cleared, .computed⟩,
   ⟨"SRL D", [.register8 .d], 2, 8, none, .none, .computed, .cleared, .cleared, .computed⟩,
   ⟨"SRL E", [.register8 .e], 2, 8, none, .none, .computed, .cleared, .cleared, .computed⟩,
   ⟨"SRL H", [.register8 .h], 2, 8, none, .none, .computed, .cleared, .cleared, .computed⟩,
   ⟨"SRL L", [.register8 .l], 2, 8, none, .none, .computed, .cleared, .cleared, .computed⟩,
   ⟨"SRL (HL)", [.indirect .hl], 2, 16, none, .none, .computed, .cleared, .cleared, .computed⟩,
   ⟨"SRL A", [.register8 .a], 2, 8, none, .none, .computed, .cleared, .cleared, .computed⟩]

/-- Row 4x of the CB-prefixed descriptors (R120, R114). -/
def cbDescriptors4 : List Descriptor :=
  [⟨"BIT 0,B", [.bitIndex 0, .register8 .b], 2, 8, none, .none, .computed, .cleared, .set, .kept⟩,
   ⟨"BIT 0,C", [.bitIndex 0, .register8 .c], 2, 8, none, .none, .computed, .cleared, .set, .kept⟩,
   ⟨"BIT 0,D", [.bitIndex 0, .register8 .d], 2, 8, none, .none, .computed, .cleared, .set, .kept⟩,
   ⟨"BIT 0,E", [.bitIndex 0, .register8 .e], 2, 8, none, .none, .computed, .cleared, .set, .kept⟩,
   ⟨"BIT 0,H", [.bitIndex 0, .register8 .h], 2, 8, none, .none, .computed, .cleared, .set, .kept⟩,
   ⟨"BIT 0,L", [.bitIndex 0, .register8 .l], 2, 8, none, .none, .computed, .cleared, .set, .kept⟩,
   ⟨"BIT 0,(HL)", [.bitIndex 0, .indirect .hl], 2, 12, none, .none, .computed, .cleared, .set, .kept⟩,
   ⟨"BIT 0,A", [.bitIndex 0, .register8 .a], 2, 8, none, .none, .computed, .cleared, .set, .kept⟩,
   ⟨"BIT 1,B", [.bitIndex 1, .register8 .b], 2, 8, none, .none, .computed, .cleared, .set, .kept⟩,
   ⟨"BIT 1,C", [.bitIndex 1, .register8 .c], 2, 8, none, .none, .computed, .cleared, .set, .kept⟩,
   ⟨"BIT 1,D", [.bitIndex 1, .register8 .d], 2, 8, none, .none, .computed, .cleared, .set, .kept⟩,
   ⟨"BIT 1,E", [.bitIndex 1, .register8 .e], 2, 8, none, .none, .computed, .cleared, .set, .kept⟩,
   ⟨"BIT 1,H", [.bitIndex 1, .register8 .h], 2, 8, none, .none, .computed, .cleared, .set, .kept⟩,
   ⟨"BIT 1,L", [.bitIndex 1, .register8 .l], 2, 8, none, .none, .computed, .cleared, .set, .kept⟩,
   ⟨"BIT 1,(HL)", [.bitIndex 1, .indirect .hl], 2, 12, none, .none, .computed, .cleared, .set, .kept⟩,
   ⟨"BIT 1,A", [.bitIndex 1, .register8 .a], 2, 8, none, .none, .computed, .cleared, .set, .kept⟩]

/-- Row 5x of the CB-prefixed descriptors (R120, R114). -/
def cbDescriptors5 : List Descriptor :=
  [⟨"BIT 2,B", [.bitIndex 2, .register8 .b], 2, 8, none, .none, .computed, .cleared, .set, .kept⟩,
   ⟨"BIT 2,C", [.bitIndex 2, .register8 .c], 2, 8, none, .none, .computed, .cleared, .set, .kept⟩,
   ⟨"BIT 2,D", [.bitIndex 2, .register8 .d], 2, 8, none, .none, .computed, .cleared, .set, .kept⟩,
   ⟨"BIT 2,E", [.bitIndex 2, .register8 .e], 2, 8, none, .none, .computed, .cleared, .set, .kept⟩,
   ⟨"BIT 2,H", [.bitIndex 2, .register8 .h], 2, 8, none, .none, .computed, .cleared, .set, .kept⟩,
   ⟨"BIT 2,L", [.bitIndex 2, .register8 .l], 2, 8, none, .none, .computed, .cleared, .set, .kept⟩,
   ⟨"BIT 2,(HL)", [.bitIndex 2, .indirect .hl], 2, 12, none, .none, .computed, .cleared, .set, .kept⟩,
   ⟨"BIT 2,A", [.bitIndex 2, .register8 .a], 2, 8, none, .none, .computed, .cleared, .set, .kept⟩,
   ⟨"BIT 3,B", [.bitIndex 3, .register8 .b], 2, 8, none, .none, .computed, .cleared, .set, .kept⟩,
   ⟨"BIT 3,C", [.bitIndex 3, .register8 .c], 2, 8, none, .none, .computed, .cleared, .set, .kept⟩,
   ⟨"BIT 3,D", [.bitIndex 3, .register8 .d], 2, 8, none, .none, .computed, .cleared, .set, .kept⟩,
   ⟨"BIT 3,E", [.bitIndex 3, .register8 .e], 2, 8, none, .none, .computed, .cleared, .set, .kept⟩,
   ⟨"BIT 3,H", [.bitIndex 3, .register8 .h], 2, 8, none, .none, .computed, .cleared, .set, .kept⟩,
   ⟨"BIT 3,L", [.bitIndex 3, .register8 .l], 2, 8, none, .none, .computed, .cleared, .set, .kept⟩,
   ⟨"BIT 3,(HL)", [.bitIndex 3, .indirect .hl], 2, 12, none, .none, .computed, .cleared, .set, .kept⟩,
   ⟨"BIT 3,A", [.bitIndex 3, .register8 .a], 2, 8, none, .none, .computed, .cleared, .set, .kept⟩]

/-- Row 6x of the CB-prefixed descriptors (R120, R114). -/
def cbDescriptors6 : List Descriptor :=
  [⟨"BIT 4,B", [.bitIndex 4, .register8 .b], 2, 8, none, .none, .computed, .cleared, .set, .kept⟩,
   ⟨"BIT 4,C", [.bitIndex 4, .register8 .c], 2, 8, none, .none, .computed, .cleared, .set, .kept⟩,
   ⟨"BIT 4,D", [.bitIndex 4, .register8 .d], 2, 8, none, .none, .computed, .cleared, .set, .kept⟩,
   ⟨"BIT 4,E", [.bitIndex 4, .register8 .e], 2, 8, none, .none, .computed, .cleared, .set, .kept⟩,
   ⟨"BIT 4,H", [.bitIndex 4, .register8 .h], 2, 8, none, .none, .computed, .cleared, .set, .kept⟩,
   ⟨"BIT 4,L", [.bitIndex 4, .register8 .l], 2, 8, none, .none, .computed, .cleared, .set, .kept⟩,
   ⟨"BIT 4,(HL)", [.bitIndex 4, .indirect .hl], 2, 12, none, .none, .computed, .cleared, .set, .kept⟩,
   ⟨"BIT 4,A", [.bitIndex 4, .register8 .a], 2, 8, none, .none, .computed, .cleared, .set, .kept⟩,
   ⟨"BIT 5,B", [.bitIndex 5, .register8 .b], 2, 8, none, .none, .computed, .cleared, .set, .kept⟩,
   ⟨"BIT 5,C", [.bitIndex 5, .register8 .c], 2, 8, none, .none, .computed, .cleared, .set, .kept⟩,
   ⟨"BIT 5,D", [.bitIndex 5, .register8 .d], 2, 8, none, .none, .computed, .cleared, .set, .kept⟩,
   ⟨"BIT 5,E", [.bitIndex 5, .register8 .e], 2, 8, none, .none, .computed, .cleared, .set, .kept⟩,
   ⟨"BIT 5,H", [.bitIndex 5, .register8 .h], 2, 8, none, .none, .computed, .cleared, .set, .kept⟩,
   ⟨"BIT 5,L", [.bitIndex 5, .register8 .l], 2, 8, none, .none, .computed, .cleared, .set, .kept⟩,
   ⟨"BIT 5,(HL)", [.bitIndex 5, .indirect .hl], 2, 12, none, .none, .computed, .cleared, .set, .kept⟩,
   ⟨"BIT 5,A", [.bitIndex 5, .register8 .a], 2, 8, none, .none, .computed, .cleared, .set, .kept⟩]

/-- Row 7x of the CB-prefixed descriptors (R120, R114). -/
def cbDescriptors7 : List Descriptor :=
  [⟨"BIT 6,B", [.bitIndex 6, .register8 .b], 2, 8, none, .none, .computed, .cleared, .set, .kept⟩,
   ⟨"BIT 6,C", [.bitIndex 6, .register8 .c], 2, 8, none, .none, .computed, .cleared, .set, .kept⟩,
   ⟨"BIT 6,D", [.bitIndex 6, .register8 .d], 2, 8, none, .none, .computed, .cleared, .set, .kept⟩,
   ⟨"BIT 6,E", [.bitIndex 6, .register8 .e], 2, 8, none, .none, .computed, .cleared, .set, .kept⟩,
   ⟨"BIT 6,H", [.bitIndex 6, .register8 .h], 2, 8, none, .none, .computed, .cleared, .set, .kept⟩,
   ⟨"BIT 6,L", [.bitIndex 6, .register8 .l], 2, 8, none, .none, .computed, .cleared, .set, .kept⟩,
   ⟨"BIT 6,(HL)", [.bitIndex 6, .indirect .hl], 2, 12, none, .none, .computed, .cleared, .set, .kept⟩,
   ⟨"BIT 6,A", [.bitIndex 6, .register8 .a], 2, 8, none, .none, .computed, .cleared, .set, .kept⟩,
   ⟨"BIT 7,B", [.bitIndex 7, .register8 .b], 2, 8, none, .none, .computed, .cleared, .set, .kept⟩,
   ⟨"BIT 7,C", [.bitIndex 7, .register8 .c], 2, 8, none, .none, .computed, .cleared, .set, .kept⟩,
   ⟨"BIT 7,D", [.bitIndex 7, .register8 .d], 2, 8, none, .none, .computed, .cleared, .set, .kept⟩,
   ⟨"BIT 7,E", [.bitIndex 7, .register8 .e], 2, 8, none, .none, .computed, .cleared, .set, .kept⟩,
   ⟨"BIT 7,H", [.bitIndex 7, .register8 .h], 2, 8, none, .none, .computed, .cleared, .set, .kept⟩,
   ⟨"BIT 7,L", [.bitIndex 7, .register8 .l], 2, 8, none, .none, .computed, .cleared, .set, .kept⟩,
   ⟨"BIT 7,(HL)", [.bitIndex 7, .indirect .hl], 2, 12, none, .none, .computed, .cleared, .set, .kept⟩,
   ⟨"BIT 7,A", [.bitIndex 7, .register8 .a], 2, 8, none, .none, .computed, .cleared, .set, .kept⟩]

/-- Row 8x of the CB-prefixed descriptors (R120, R114). -/
def cbDescriptors8 : List Descriptor :=
  [⟨"RES 0,B", [.bitIndex 0, .register8 .b], 2, 8, none, .none, .kept, .kept, .kept, .kept⟩,
   ⟨"RES 0,C", [.bitIndex 0, .register8 .c], 2, 8, none, .none, .kept, .kept, .kept, .kept⟩,
   ⟨"RES 0,D", [.bitIndex 0, .register8 .d], 2, 8, none, .none, .kept, .kept, .kept, .kept⟩,
   ⟨"RES 0,E", [.bitIndex 0, .register8 .e], 2, 8, none, .none, .kept, .kept, .kept, .kept⟩,
   ⟨"RES 0,H", [.bitIndex 0, .register8 .h], 2, 8, none, .none, .kept, .kept, .kept, .kept⟩,
   ⟨"RES 0,L", [.bitIndex 0, .register8 .l], 2, 8, none, .none, .kept, .kept, .kept, .kept⟩,
   ⟨"RES 0,(HL)", [.bitIndex 0, .indirect .hl], 2, 16, none, .none, .kept, .kept, .kept, .kept⟩,
   ⟨"RES 0,A", [.bitIndex 0, .register8 .a], 2, 8, none, .none, .kept, .kept, .kept, .kept⟩,
   ⟨"RES 1,B", [.bitIndex 1, .register8 .b], 2, 8, none, .none, .kept, .kept, .kept, .kept⟩,
   ⟨"RES 1,C", [.bitIndex 1, .register8 .c], 2, 8, none, .none, .kept, .kept, .kept, .kept⟩,
   ⟨"RES 1,D", [.bitIndex 1, .register8 .d], 2, 8, none, .none, .kept, .kept, .kept, .kept⟩,
   ⟨"RES 1,E", [.bitIndex 1, .register8 .e], 2, 8, none, .none, .kept, .kept, .kept, .kept⟩,
   ⟨"RES 1,H", [.bitIndex 1, .register8 .h], 2, 8, none, .none, .kept, .kept, .kept, .kept⟩,
   ⟨"RES 1,L", [.bitIndex 1, .register8 .l], 2, 8, none, .none, .kept, .kept, .kept, .kept⟩,
   ⟨"RES 1,(HL)", [.bitIndex 1, .indirect .hl], 2, 16, none, .none, .kept, .kept, .kept, .kept⟩,
   ⟨"RES 1,A", [.bitIndex 1, .register8 .a], 2, 8, none, .none, .kept, .kept, .kept, .kept⟩]

/-- Row 9x of the CB-prefixed descriptors (R120, R114). -/
def cbDescriptors9 : List Descriptor :=
  [⟨"RES 2,B", [.bitIndex 2, .register8 .b], 2, 8, none, .none, .kept, .kept, .kept, .kept⟩,
   ⟨"RES 2,C", [.bitIndex 2, .register8 .c], 2, 8, none, .none, .kept, .kept, .kept, .kept⟩,
   ⟨"RES 2,D", [.bitIndex 2, .register8 .d], 2, 8, none, .none, .kept, .kept, .kept, .kept⟩,
   ⟨"RES 2,E", [.bitIndex 2, .register8 .e], 2, 8, none, .none, .kept, .kept, .kept, .kept⟩,
   ⟨"RES 2,H", [.bitIndex 2, .register8 .h], 2, 8, none, .none, .kept, .kept, .kept, .kept⟩,
   ⟨"RES 2,L", [.bitIndex 2, .register8 .l], 2, 8, none, .none, .kept, .kept, .kept, .kept⟩,
   ⟨"RES 2,(HL)", [.bitIndex 2, .indirect .hl], 2, 16, none, .none, .kept, .kept, .kept, .kept⟩,
   ⟨"RES 2,A", [.bitIndex 2, .register8 .a], 2, 8, none, .none, .kept, .kept, .kept, .kept⟩,
   ⟨"RES 3,B", [.bitIndex 3, .register8 .b], 2, 8, none, .none, .kept, .kept, .kept, .kept⟩,
   ⟨"RES 3,C", [.bitIndex 3, .register8 .c], 2, 8, none, .none, .kept, .kept, .kept, .kept⟩,
   ⟨"RES 3,D", [.bitIndex 3, .register8 .d], 2, 8, none, .none, .kept, .kept, .kept, .kept⟩,
   ⟨"RES 3,E", [.bitIndex 3, .register8 .e], 2, 8, none, .none, .kept, .kept, .kept, .kept⟩,
   ⟨"RES 3,H", [.bitIndex 3, .register8 .h], 2, 8, none, .none, .kept, .kept, .kept, .kept⟩,
   ⟨"RES 3,L", [.bitIndex 3, .register8 .l], 2, 8, none, .none, .kept, .kept, .kept, .kept⟩,
   ⟨"RES 3,(HL)", [.bitIndex 3, .indirect .hl], 2, 16, none, .none, .kept, .kept, .kept, .kept⟩,
   ⟨"RES 3,A", [.bitIndex 3, .register8 .a], 2, 8, none, .none, .kept, .kept, .kept, .kept⟩]

/-- Row Ax of the CB-prefixed descriptors (R120, R114). -/
def cbDescriptorsA : List Descriptor :=
  [⟨"RES 4,B", [.bitIndex 4, .register8 .b], 2, 8, none, .none, .kept, .kept, .kept, .kept⟩,
   ⟨"RES 4,C", [.bitIndex 4, .register8 .c], 2, 8, none, .none, .kept, .kept, .kept, .kept⟩,
   ⟨"RES 4,D", [.bitIndex 4, .register8 .d], 2, 8, none, .none, .kept, .kept, .kept, .kept⟩,
   ⟨"RES 4,E", [.bitIndex 4, .register8 .e], 2, 8, none, .none, .kept, .kept, .kept, .kept⟩,
   ⟨"RES 4,H", [.bitIndex 4, .register8 .h], 2, 8, none, .none, .kept, .kept, .kept, .kept⟩,
   ⟨"RES 4,L", [.bitIndex 4, .register8 .l], 2, 8, none, .none, .kept, .kept, .kept, .kept⟩,
   ⟨"RES 4,(HL)", [.bitIndex 4, .indirect .hl], 2, 16, none, .none, .kept, .kept, .kept, .kept⟩,
   ⟨"RES 4,A", [.bitIndex 4, .register8 .a], 2, 8, none, .none, .kept, .kept, .kept, .kept⟩,
   ⟨"RES 5,B", [.bitIndex 5, .register8 .b], 2, 8, none, .none, .kept, .kept, .kept, .kept⟩,
   ⟨"RES 5,C", [.bitIndex 5, .register8 .c], 2, 8, none, .none, .kept, .kept, .kept, .kept⟩,
   ⟨"RES 5,D", [.bitIndex 5, .register8 .d], 2, 8, none, .none, .kept, .kept, .kept, .kept⟩,
   ⟨"RES 5,E", [.bitIndex 5, .register8 .e], 2, 8, none, .none, .kept, .kept, .kept, .kept⟩,
   ⟨"RES 5,H", [.bitIndex 5, .register8 .h], 2, 8, none, .none, .kept, .kept, .kept, .kept⟩,
   ⟨"RES 5,L", [.bitIndex 5, .register8 .l], 2, 8, none, .none, .kept, .kept, .kept, .kept⟩,
   ⟨"RES 5,(HL)", [.bitIndex 5, .indirect .hl], 2, 16, none, .none, .kept, .kept, .kept, .kept⟩,
   ⟨"RES 5,A", [.bitIndex 5, .register8 .a], 2, 8, none, .none, .kept, .kept, .kept, .kept⟩]

/-- Row Bx of the CB-prefixed descriptors (R120, R114). -/
def cbDescriptorsB : List Descriptor :=
  [⟨"RES 6,B", [.bitIndex 6, .register8 .b], 2, 8, none, .none, .kept, .kept, .kept, .kept⟩,
   ⟨"RES 6,C", [.bitIndex 6, .register8 .c], 2, 8, none, .none, .kept, .kept, .kept, .kept⟩,
   ⟨"RES 6,D", [.bitIndex 6, .register8 .d], 2, 8, none, .none, .kept, .kept, .kept, .kept⟩,
   ⟨"RES 6,E", [.bitIndex 6, .register8 .e], 2, 8, none, .none, .kept, .kept, .kept, .kept⟩,
   ⟨"RES 6,H", [.bitIndex 6, .register8 .h], 2, 8, none, .none, .kept, .kept, .kept, .kept⟩,
   ⟨"RES 6,L", [.bitIndex 6, .register8 .l], 2, 8, none, .none, .kept, .kept, .kept, .kept⟩,
   ⟨"RES 6,(HL)", [.bitIndex 6, .indirect .hl], 2, 16, none, .none, .kept, .kept, .kept, .kept⟩,
   ⟨"RES 6,A", [.bitIndex 6, .register8 .a], 2, 8, none, .none, .kept, .kept, .kept, .kept⟩,
   ⟨"RES 7,B", [.bitIndex 7, .register8 .b], 2, 8, none, .none, .kept, .kept, .kept, .kept⟩,
   ⟨"RES 7,C", [.bitIndex 7, .register8 .c], 2, 8, none, .none, .kept, .kept, .kept, .kept⟩,
   ⟨"RES 7,D", [.bitIndex 7, .register8 .d], 2, 8, none, .none, .kept, .kept, .kept, .kept⟩,
   ⟨"RES 7,E", [.bitIndex 7, .register8 .e], 2, 8, none, .none, .kept, .kept, .kept, .kept⟩,
   ⟨"RES 7,H", [.bitIndex 7, .register8 .h], 2, 8, none, .none, .kept, .kept, .kept, .kept⟩,
   ⟨"RES 7,L", [.bitIndex 7, .register8 .l], 2, 8, none, .none, .kept, .kept, .kept, .kept⟩,
   ⟨"RES 7,(HL)", [.bitIndex 7, .indirect .hl], 2, 16, none, .none, .kept, .kept, .kept, .kept⟩,
   ⟨"RES 7,A", [.bitIndex 7, .register8 .a], 2, 8, none, .none, .kept, .kept, .kept, .kept⟩]

/-- Row Cx of the CB-prefixed descriptors (R120, R114). -/
def cbDescriptorsC : List Descriptor :=
  [⟨"SET 0,B", [.bitIndex 0, .register8 .b], 2, 8, none, .none, .kept, .kept, .kept, .kept⟩,
   ⟨"SET 0,C", [.bitIndex 0, .register8 .c], 2, 8, none, .none, .kept, .kept, .kept, .kept⟩,
   ⟨"SET 0,D", [.bitIndex 0, .register8 .d], 2, 8, none, .none, .kept, .kept, .kept, .kept⟩,
   ⟨"SET 0,E", [.bitIndex 0, .register8 .e], 2, 8, none, .none, .kept, .kept, .kept, .kept⟩,
   ⟨"SET 0,H", [.bitIndex 0, .register8 .h], 2, 8, none, .none, .kept, .kept, .kept, .kept⟩,
   ⟨"SET 0,L", [.bitIndex 0, .register8 .l], 2, 8, none, .none, .kept, .kept, .kept, .kept⟩,
   ⟨"SET 0,(HL)", [.bitIndex 0, .indirect .hl], 2, 16, none, .none, .kept, .kept, .kept, .kept⟩,
   ⟨"SET 0,A", [.bitIndex 0, .register8 .a], 2, 8, none, .none, .kept, .kept, .kept, .kept⟩,
   ⟨"SET 1,B", [.bitIndex 1, .register8 .b], 2, 8, none, .none, .kept, .kept, .kept, .kept⟩,
   ⟨"SET 1,C", [.bitIndex 1, .register8 .c], 2, 8, none, .none, .kept, .kept, .kept, .kept⟩,
   ⟨"SET 1,D", [.bitIndex 1, .register8 .d], 2, 8, none, .none, .kept, .kept, .kept, .kept⟩,
   ⟨"SET 1,E", [.bitIndex 1, .register8 .e], 2, 8, none, .none, .kept, .kept, .kept, .kept⟩,
   ⟨"SET 1,H", [.bitIndex 1, .register8 .h], 2, 8, none, .none, .kept, .kept, .kept, .kept⟩,
   ⟨"SET 1,L", [.bitIndex 1, .register8 .l], 2, 8, none, .none, .kept, .kept, .kept, .kept⟩,
   ⟨"SET 1,(HL)", [.bitIndex 1, .indirect .hl], 2, 16, none, .none, .kept, .kept, .kept, .kept⟩,
   ⟨"SET 1,A", [.bitIndex 1, .register8 .a], 2, 8, none, .none, .kept, .kept, .kept, .kept⟩]

/-- Row Dx of the CB-prefixed descriptors (R120, R114). -/
def cbDescriptorsD : List Descriptor :=
  [⟨"SET 2,B", [.bitIndex 2, .register8 .b], 2, 8, none, .none, .kept, .kept, .kept, .kept⟩,
   ⟨"SET 2,C", [.bitIndex 2, .register8 .c], 2, 8, none, .none, .kept, .kept, .kept, .kept⟩,
   ⟨"SET 2,D", [.bitIndex 2, .register8 .d], 2, 8, none, .none, .kept, .kept, .kept, .kept⟩,
   ⟨"SET 2,E", [.bitIndex 2, .register8 .e], 2, 8, none, .none, .kept, .kept, .kept, .kept⟩,
   ⟨"SET 2,H", [.bitIndex 2, .register8 .h], 2, 8, none, .none, .kept, .kept, .kept, .kept⟩,
   ⟨"SET 2,L", [.bitIndex 2, .register8 .l], 2, 8, none, .none, .kept, .kept, .kept, .kept⟩,
   ⟨"SET 2,(HL)", [.bitIndex 2, .indirect .hl], 2, 16, none, .none, .kept, .kept, .kept, .kept⟩,
   ⟨"SET 2,A", [.bitIndex 2, .register8 .a], 2, 8, none, .none, .kept, .kept, .kept, .kept⟩,
   ⟨"SET 3,B", [.bitIndex 3, .register8 .b], 2, 8, none, .none, .kept, .kept, .kept, .kept⟩,
   ⟨"SET 3,C", [.bitIndex 3, .register8 .c], 2, 8, none, .none, .kept, .kept, .kept, .kept⟩,
   ⟨"SET 3,D", [.bitIndex 3, .register8 .d], 2, 8, none, .none, .kept, .kept, .kept, .kept⟩,
   ⟨"SET 3,E", [.bitIndex 3, .register8 .e], 2, 8, none, .none, .kept, .kept, .kept, .kept⟩,
   ⟨"SET 3,H", [.bitIndex 3, .register8 .h], 2, 8, none, .none, .kept, .kept, .kept, .kept⟩,
   ⟨"SET 3,L", [.bitIndex 3, .register8 .l], 2, 8, none, .none, .kept, .kept, .kept, .kept⟩,
   ⟨"SET 3,(HL)", [.bitIndex 3, .indirect .hl], 2, 16, none, .none, .kept, .kept, .kept, .kept⟩,
   ⟨"SET 3,A", [.bitIndex 3, .register8 .a], 2, 8, none, .none, .kept, .kept, .kept, .kept⟩]

/-- Row Ex of the CB-prefixed descriptors (R120, R114). -/
def cbDescriptorsE : List Descriptor :=
  [⟨"SET 4,B", [.bitIndex 4, .register8 .b], 2, 8, none, .none, .kept, .kept, .kept, .kept⟩,
   ⟨"SET 4,C", [.bitIndex 4, .register8 .c], 2, 8, none, .none, .kept, .kept, .kept, .kept⟩,
   ⟨"SET 4,D", [.bitIndex 4, .register8 .d], 2, 8, none, .none, .kept, .kept, .kept, .kept⟩,
   ⟨"SET 4,E", [.bitIndex 4, .register8 .e], 2, 8, none, .none, .kept, .kept, .kept, .kept⟩,
   ⟨"SET 4,H", [.bitIndex 4, .register8 .h], 2, 8, none, .none, .kept, .kept, .kept, .kept⟩,
   ⟨"SET 4,L", [.bitIndex 4, .register8 .l], 2, 8, none, .none, .kept, .kept, .kept, .kept⟩,
   ⟨"SET 4,(HL)", [.bitIndex 4, .indirect .hl], 2, 16, none, .none, .kept, .kept, .kept, .kept⟩,
   ⟨"SET 4,A", [.bitIndex 4, .register8 .a], 2, 8, none, .none, .kept, .kept, .kept, .kept⟩,
   ⟨"SET 5,B", [.bitIndex 5, .register8 .b], 2, 8, none, .none, .kept, .kept, .kept, .kept⟩,
   ⟨"SET 5,C", [.bitIndex 5, .register8 .c], 2, 8, none, .none, .kept, .kept, .kept, .kept⟩,
   ⟨"SET 5,D", [.bitIndex 5, .register8 .d], 2, 8, none, .none, .kept, .kept, .kept, .kept⟩,
   ⟨"SET 5,E", [.bitIndex 5, .register8 .e], 2, 8, none, .none, .kept, .kept, .kept, .kept⟩,
   ⟨"SET 5,H", [.bitIndex 5, .register8 .h], 2, 8, none, .none, .kept, .kept, .kept, .kept⟩,
   ⟨"SET 5,L", [.bitIndex 5, .register8 .l], 2, 8, none, .none, .kept, .kept, .kept, .kept⟩,
   ⟨"SET 5,(HL)", [.bitIndex 5, .indirect .hl], 2, 16, none, .none, .kept, .kept, .kept, .kept⟩,
   ⟨"SET 5,A", [.bitIndex 5, .register8 .a], 2, 8, none, .none, .kept, .kept, .kept, .kept⟩]

/-- Row Fx of the CB-prefixed descriptors (R120, R114). -/
def cbDescriptorsF : List Descriptor :=
  [⟨"SET 6,B", [.bitIndex 6, .register8 .b], 2, 8, none, .none, .kept, .kept, .kept, .kept⟩,
   ⟨"SET 6,C", [.bitIndex 6, .register8 .c], 2, 8, none, .none, .kept, .kept, .kept, .kept⟩,
   ⟨"SET 6,D", [.bitIndex 6, .register8 .d], 2, 8, none, .none, .kept, .kept, .kept, .kept⟩,
   ⟨"SET 6,E", [.bitIndex 6, .register8 .e], 2, 8, none, .none, .kept, .kept, .kept, .kept⟩,
   ⟨"SET 6,H", [.bitIndex 6, .register8 .h], 2, 8, none, .none, .kept, .kept, .kept, .kept⟩,
   ⟨"SET 6,L", [.bitIndex 6, .register8 .l], 2, 8, none, .none, .kept, .kept, .kept, .kept⟩,
   ⟨"SET 6,(HL)", [.bitIndex 6, .indirect .hl], 2, 16, none, .none, .kept, .kept, .kept, .kept⟩,
   ⟨"SET 6,A", [.bitIndex 6, .register8 .a], 2, 8, none, .none, .kept, .kept, .kept, .kept⟩,
   ⟨"SET 7,B", [.bitIndex 7, .register8 .b], 2, 8, none, .none, .kept, .kept, .kept, .kept⟩,
   ⟨"SET 7,C", [.bitIndex 7, .register8 .c], 2, 8, none, .none, .kept, .kept, .kept, .kept⟩,
   ⟨"SET 7,D", [.bitIndex 7, .register8 .d], 2, 8, none, .none, .kept, .kept, .kept, .kept⟩,
   ⟨"SET 7,E", [.bitIndex 7, .register8 .e], 2, 8, none, .none, .kept, .kept, .kept, .kept⟩,
   ⟨"SET 7,H", [.bitIndex 7, .register8 .h], 2, 8, none, .none, .kept, .kept, .kept, .kept⟩,
   ⟨"SET 7,L", [.bitIndex 7, .register8 .l], 2, 8, none, .none, .kept, .kept, .kept, .kept⟩,
   ⟨"SET 7,(HL)", [.bitIndex 7, .indirect .hl], 2, 16, none, .none, .kept, .kept, .kept, .kept⟩,
   ⟨"SET 7,A", [.bitIndex 7, .register8 .a], 2, 8, none, .none, .kept, .kept, .kept, .kept⟩]

/-- The 256 CB-prefixed descriptors (R120). -/
def cbDescriptors : List (List Descriptor) :=
  [cbDescriptors0, cbDescriptors1, cbDescriptors2, cbDescriptors3,
   cbDescriptors4, cbDescriptors5, cbDescriptors6, cbDescriptors7,
   cbDescriptors8, cbDescriptors9, cbDescriptorsA, cbDescriptorsB,
   cbDescriptorsC, cbDescriptorsD, cbDescriptorsE, cbDescriptorsF]

/-- The descriptor of the primary byte 0xCB, which the step never executes (R113). -/
def placeholderDescriptor : Descriptor :=
  ⟨"PREFIX CB", [], 1, 4, none, .none, .kept, .kept, .kept, .kept⟩

/-- `lookup(prefix, byte)`, total over the 512 combinations (R120). -/
def lookup (cbPrefix : Bool) (byte : Byte) : Descriptor :=
  ((if cbPrefix then cbDescriptors else primaryDescriptors).getD (byte.toNat / 16) []).getD (byte.toNat % 16)
    placeholderDescriptor

/-- The descriptor of an instruction: its bytes looked up as the step looks them up (R140). -/
def descriptor (i : Instr) : Descriptor :=
  match encode i with
  | [] => placeholderDescriptor
  | [op] => lookup false op
  | op :: s :: _ => if op = 0xCB then lookup true s else lookup false op

end Sys2Proof.Machine
end

