-- ==== Sys2Proof/Safety.lean ====
section
/-! DEFINITION. What a state of the machine is sound in (the invariants), what a safe outcome is, and the words the
statements use: how an instruction completes (its PC, cycles, bus accesses and frame) and how it ends at a BusFault. -/

namespace Sys2Proof.Machine

/-! ### Invariants and outcomes -/

/-- R32: "low nibble is always zero". -/
abbrev State.lowNibbleZero (s : State) : Prop := s.f &&& 0x0F = 0

/-- Memory is in its canonical form. -/
abbrev State.memoryCanonical (s : State) : Prop := Memory.wf s.mem = true

/-- D7: every count is a multiple of 4. -/
abbrev State.wholeMachineCycles (s : State) : Prop := s.cycles % 4 = 0

/-- A next state with no BusFault recorded. -/
def Completes (r : Result) : Prop := ∃ t, r = .next t ∧ t.fault = none

/-- A safe outcome of a step: a next state without a fault, or the end the host asked for (R148). -/
def SafeOutcome (r : Result) : Prop := Completes r ∨ r = .fault .runEnded

/-- Whether an output is a cycle report. -/
def Event.isReport : Event → Bool
  | .fetch _ _ => false
  | .read _ _ => false
  | .write _ _ => false
  | .report _ => true

/-! ### Frames -/

/-- Every address holds the same byte of memory. -/
def SameMemory (s t : State) : Prop := ∀ a : Word, t.byteAt a = s.byteAt a

/-- How addresses are backed, and the host's moves to come, are as they were. -/
def SamePlatform (s t : State) : Prop := t.busMap = s.busMap ∧ t.host = s.host

/-- The interrupt and dispatch state and the fault record are as they were (R40 to R42, R45). -/
def SameControl (s t : State) : Prop :=
  t.ime = s.ime ∧ t.imePending = s.imePending ∧ t.run = s.run ∧ t.fault = s.fault

/-- The 8-bit registers but F are as they were. -/
def SameReg8 (s t : State) : Prop := ∀ q : Reg8, t.reg8 q = s.reg8 q

/-- Register `r` holds `v`, and every other 8-bit register but F what it held. -/
def Reg8Becomes (r : Reg8) (v : Byte) (s t : State) : Prop :=
  ∀ q : Reg8, t.reg8 q = if q = r then v else s.reg8 q

/-- The two bytes of a word in the registers `hi` and `lo`, every other 8-bit register but F as it was (R33). -/
def BytesBecome (hi lo : Reg8) (v : Word) (s t : State) : Prop :=
  t.reg8 hi = v.extractLsb' 8 8 ∧ t.reg8 lo = v.extractLsb' 0 8 ∧ ∀ q, q ≠ hi → q ≠ lo → t.reg8 q = s.reg8 q

/-- The pair `rr`, or SP, holds `v`, and every register it does not name what it held (R33, R35). -/
def PairBecomes : Pair → Word → State → State → Prop
  | .bc, v, s, t => BytesBecome .b .c v s t ∧ t.sp = s.sp
  | .de, v, s, t => BytesBecome .d .e v s t ∧ t.sp = s.sp
  | .hl, v, s, t => BytesBecome .h .l v s t ∧ t.sp = s.sp
  | .sp, v, s, t => SameReg8 s t ∧ t.sp = v

/-- The four flags are these, and F's low nibble is zero (R32, R36). -/
def FlagsBecome (z n h c : Bool) (t : State) : Prop :=
  t.flagZ = z ∧ t.flagN = n ∧ t.flagH = h ∧ t.flagC = c ∧ t.f &&& 0x0F = 0

/-- Address `a` holds `v` if plain memory backs it and what it held otherwise (R85, R470); every other address holds
what it held. -/
def StoredByte (a : Word) (v : Byte) (s t : State) : Prop :=
  (t.byteAt a = if (s.region a).backing = .memory then v else s.byteAt a) ∧
    ∀ b, b ≠ a → t.byteAt b = s.byteAt b

/-- As StoredByte, for two different addresses. -/
def StoredTwoBytes (a : Word) (v : Byte) (b : Word) (w : Byte) (s t : State) : Prop :=
  (t.byteAt a = if (s.region a).backing = .memory then v else s.byteAt a) ∧
    (t.byteAt b = if (s.region b).backing = .memory then w else s.byteAt b) ∧
    ∀ x, x ≠ a → x ≠ b → t.byteAt x = s.byteAt x

/-! ### How a meaning completes -/

/-- It answers a next state with this PC, these cycles added and reported after the bus accesses `accesses` (newest
first), the platform and the control state unchanged. -/
def CompletesWith (r : Result) (s : State) (pc : Word) (cyc : Nat) (accesses : List Event)
    (post : State → State → Prop) : Prop :=
  ∃ t, r = .next t ∧ t.pc = pc ∧ t.cycles = s.cycles + cyc ∧ t.trace = .report cyc :: (accesses ++ s.trace) ∧
    SamePlatform s t ∧ SameControl s t ∧ post s t

/-- The address past an instruction of `len` bytes (R143). -/
def past (len : Nat) (s : State) : Word := s.pc + BitVec.ofNat 16 len

/-- It ends at a BusFault (R150, R451): the record is kept, the accesses completed before stand, nothing is added to
`cycles` or reported, and no flag, no control state, no 8-bit register and, after the advance to `fetched`, no PC is
written. R451 warns a claim off the registers because of SP: SP is left out, and what is said is what the family rules
say of their own faults (R215, R234, R286, R385, R387, R389). -/
def EndsAtFault (r : Result) (s : State) (fetched : Word) (k : AccessKind) (a : Word) (accesses : List Event)
    (memory : State → State → Prop) : Prop :=
  ∃ t, r = .next t ∧ t.fault = some ⟨k, a⟩ ∧ t.cycles = s.cycles ∧ t.trace = accesses ++ s.trace ∧
    SamePlatform s t ∧ t.ime = s.ime ∧ t.imePending = s.imePending ∧ t.run = s.run ∧ SameReg8 s t ∧ t.f = s.f ∧
    t.pc = fetched ∧ memory s t

/-- Instruction `i` makes no bus access after its fetches and completes in every state; memory is unchanged. -/
def Quiet (i : Instr) (pc : State → Word) (cyc : State → Nat) (post : State → State → Prop) : Prop :=
  ∀ s, CompletesWith (exec i s) s (pc s) (cyc s) []
    fun s t => SameMemory s t ∧ t.deviceAccesses = s.deviceAccesses ∧ post s t

/-- Instruction `i`, of `len` bytes and `cyc` cycles, makes one read, at `a`, and completes if the bus answers it;
memory is unchanged. -/
def ReadsOnce (i : Instr) (len cyc : Nat) (a : State → Word) (post : Byte → State → State → Prop) : Prop :=
  ∀ s,
    (∀ v, s.readAnswer (a s) = some v →
      CompletesWith (exec i s) s (past len s) cyc [.read (a s) v] fun s t =>
        SameMemory s t ∧ t.deviceAccesses = (s.countAccess (a s)).deviceAccesses ∧ post v s t) ∧
    (s.readAnswer (a s) = none → EndsAtFault (exec i s) s (past len s) .read (a s) [] SameMemory)

/-- Instruction `i`, of `len` bytes and `cyc` cycles, makes one write, of `v` to `a`, and completes if the bus accepts
it; no flag is written. -/
def WritesOnce (i : Instr) (len cyc : Nat) (a : State → Word) (v : State → Byte)
    (post : State → State → Prop) : Prop :=
  ∀ s,
    (s.writeAccepted (a s) = true →
      CompletesWith (exec i s) s (past len s) cyc [.write (a s) (v s)]
        fun s t => StoredByte (a s) (v s) s t ∧ t.deviceAccesses = (s.countAccess (a s)).deviceAccesses ∧
          t.f = s.f ∧ t.sp = s.sp ∧ post s t) ∧
    (s.writeAccepted (a s) = false → EndsAtFault (exec i s) s (past len s) .write (a s) [] SameMemory)

/-- Instruction `i`, of `len` bytes and `cyc` cycles, reads the byte at HL and then writes `f` of it there; no
register but F changes. -/
def ReadModifyWrites (i : Instr) (len cyc : Nat) (f : State → Byte → Byte)
    (post : Byte → State → State → Prop) : Prop :=
  ∀ s,
    (∀ v, s.readAnswer s.hl = some v →
      ((s.countAccess s.hl).writeAccepted s.hl = true →
        CompletesWith (exec i s) s (past len s) cyc [.write s.hl (f s v), .read s.hl v]
          fun s t => StoredByte s.hl (f s v) s t ∧
            t.deviceAccesses = ((s.countAccess s.hl).countAccess s.hl).deviceAccesses ∧
            SameReg8 s t ∧ t.sp = s.sp ∧ post v s t) ∧
      ((s.countAccess s.hl).writeAccepted s.hl = false →
        EndsAtFault (exec i s) s (past len s) .write s.hl [.read s.hl v] SameMemory)) ∧
    (s.readAnswer s.hl = none → EndsAtFault (exec i s) s (past len s) .read s.hl [] SameMemory)

/-- A push of `v` (R80) by an instruction fetched up to `fetched`, ending with PC at `pc` after `cyc` cycles: the high
byte to SP-1, the low byte to SP-2, SP down by two; no 8-bit register changes. -/
def PushesWord (r : Result) (s : State) (fetched v pc : Word) (cyc : Nat) : Prop :=
  (s.writeAccepted (s.sp - 1) = true →
    ((s.countAccess (s.sp - 1)).writeAccepted (s.sp - 2) = true →
      CompletesWith r s pc cyc [.write (s.sp - 2) (loByte v), .write (s.sp - 1) (hiByte v)]
        fun s t => t.sp = s.sp - 2 ∧ SameReg8 s t ∧ t.f = s.f ∧
          t.deviceAccesses = ((s.countAccess (s.sp - 1)).countAccess (s.sp - 2)).deviceAccesses ∧
          StoredTwoBytes (s.sp - 1) (hiByte v) (s.sp - 2) (loByte v) s t) ∧
    ((s.countAccess (s.sp - 1)).writeAccepted (s.sp - 2) = false →
      EndsAtFault r s fetched .write (s.sp - 2) [.write (s.sp - 1) (hiByte v)] (StoredByte (s.sp - 1) (hiByte v)))) ∧
  (s.writeAccepted (s.sp - 1) = false → EndsAtFault r s fetched .write (s.sp - 1) [] SameMemory)

/-- A pop (R81) by an instruction fetched up to `fetched`, after which the meaning does `post` with the word read: the
low byte from SP, the high byte from SP+1, SP up by two; memory is unchanged. `control` says what becomes of the
control state. -/
def PopsWord (r : Result) (s : State) (fetched : Word) (pc : Word → Word) (cyc : Nat) (control : State → State → Prop)
    (post : Word → State → State → Prop) : Prop :=
  (∀ lo, s.readAnswer s.sp = some lo →
    (∀ hi, (s.countAccess s.sp).readAnswer (s.sp + 1) = some hi →
      ∃ t, r = .next t ∧ t.sp = s.sp + 2 ∧ t.pc = pc (hi ++ lo) ∧ t.cycles = s.cycles + cyc ∧
        t.trace = .report cyc :: .read (s.sp + 1) hi :: .read s.sp lo :: s.trace ∧
        SamePlatform s t ∧ SameMemory s t ∧
        t.deviceAccesses = ((s.countAccess s.sp).countAccess (s.sp + 1)).deviceAccesses ∧
        control s t ∧ post (hi ++ lo) s t) ∧
    ((s.countAccess s.sp).readAnswer (s.sp + 1) = none →
      EndsAtFault r s fetched .read (s.sp + 1) [.read s.sp lo] SameMemory)) ∧
  (s.readAnswer s.sp = none → EndsAtFault r s fetched .read s.sp [] SameMemory)

end Sys2Proof.Machine
end

