-- ==== Sys2Proof/Certificates/Slice0/Obligations.lean ====
section
/-! DEFINITION. The statements for the provers, from the numbered rules of spec/. Helper definitions restate the spec's
arithmetic on numbers and bits, apart from the machine's own functions. -/

namespace Sys2Proof.Machine

/-! ### The spec's computations, as numbers and bits -/

/-- R250 to R257: what each ALU function gives for `a`, `b` and the carry-in, as unsigned numbers (R9). -/
def AluGives (op : AluOp) (a b : Byte) (cin : Bool) (r : Byte) (z n h c : Bool) : Prop :=
  let x := a.toNat
  let y := b.toNat
  let k := cin.toNat
  match op with
  | .add => r.toNat = (x + y) % 256 ∧ (z = true ↔ (x + y) % 256 = 0) ∧ n = false ∧
      (h = true ↔ x % 16 + y % 16 > 0x0F) ∧ (c = true ↔ x + y > 0xFF)
  | .adc => r.toNat = (x + y + k) % 256 ∧ (z = true ↔ (x + y + k) % 256 = 0) ∧ n = false ∧
      (h = true ↔ x % 16 + y % 16 + k > 0x0F) ∧ (c = true ↔ x + y + k > 0xFF)
  | .sub => (r.toNat : Int) = ((x : Int) - y) % 256 ∧ (z = true ↔ ((x : Int) - y) % 256 = 0) ∧ n = true ∧
      (h = true ↔ x % 16 < y % 16) ∧ (c = true ↔ x < y)
  | .sbc => (r.toNat : Int) = ((x : Int) - y - k) % 256 ∧ (z = true ↔ ((x : Int) - y - k) % 256 = 0) ∧ n = true ∧
      (h = true ↔ x % 16 < y % 16 + k) ∧ (c = true ↔ x < y + k)
  | .and => (∀ i, r.getLsbD i = (a.getLsbD i && b.getLsbD i)) ∧ (z = true ↔ r = 0) ∧ n = false ∧ h = true ∧ c = false
  | .xor => (∀ i, r.getLsbD i = (a.getLsbD i != b.getLsbD i)) ∧ (z = true ↔ r = 0) ∧ n = false ∧ h = false ∧
      c = false
  | .or => (∀ i, r.getLsbD i = (a.getLsbD i || b.getLsbD i)) ∧ (z = true ↔ r = 0) ∧ n = false ∧ h = false ∧
      c = false
  | .cp => r = a ∧ (z = true ↔ ((x : Int) - y) % 256 = 0) ∧ n = true ∧ (h = true ↔ x % 16 < y % 16) ∧
      (c = true ↔ x < y)

/-- R258, R261: A and the flags after an ALU instruction with source byte `v`; every other register is unchanged. -/
def AluWritten (op : AluOp) (v : Byte) (s t : State) : Prop :=
  AluGives op s.a v s.flagC t.a t.flagZ t.flagN t.flagH t.flagC ∧ t.f &&& 0x0F = 0 ∧
    (∀ q : Reg8, q ≠ .a → t.reg8 q = s.reg8 q) ∧ t.sp = s.sp

/-- R285: the flags of INC on `v`, C as it was. -/
def IncFlags (v : Byte) (s t : State) : Prop :=
  (t.flagZ = true ↔ (v.toNat + 1) % 256 = 0) ∧ t.flagN = false ∧ (t.flagH = true ↔ v.toNat % 16 = 0x0F) ∧
    t.flagC = s.flagC ∧ t.f &&& 0x0F = 0

/-- R287: the flags of DEC on `v`, C as it was. -/
def DecFlags (v : Byte) (s t : State) : Prop :=
  (t.flagZ = true ↔ ((v.toNat : Int) - 1) % 256 = 0) ∧ t.flagN = true ∧ (t.flagH = true ↔ v.toNat % 16 = 0x00) ∧
    t.flagC = s.flagC ∧ t.f &&& 0x0F = 0

/-- R289: the adjusted number before the final wrap, and C, in the order of the rule's pseudocode. -/
def daaAdjusted (a : Int) (n h c : Bool) : Int × Bool :=
  if n = false then
    let first : Int × Bool := if c = true ∨ a > 0x99 then (a + 0x60, true) else (a, c)
    (if h = true ∨ first.1 % 16 > 0x09 then first.1 + 0x06 else first.1, first.2)
  else
    let first : Int := if c = true then a - 0x60 else a
    (if h = true then first - 0x06 else first, c)

/-- R340 to R354: the result `r` and the bit out of each rotate or shift of `v`, bit by bit. -/
def RotGives (op : RotOp) (v : Byte) (cin : Bool) (r : Byte) (cout : Bool) : Prop :=
  match op with
  | .rlc => cout = v.getLsbD 7 ∧ r.getLsbD 0 = v.getLsbD 7 ∧ ∀ i, i < 7 → r.getLsbD (i + 1) = v.getLsbD i
  | .rrc => cout = v.getLsbD 0 ∧ r.getLsbD 7 = v.getLsbD 0 ∧ ∀ i, i < 7 → r.getLsbD i = v.getLsbD (i + 1)
  | .rl => cout = v.getLsbD 7 ∧ r.getLsbD 0 = cin ∧ ∀ i, i < 7 → r.getLsbD (i + 1) = v.getLsbD i
  | .rr => cout = v.getLsbD 0 ∧ r.getLsbD 7 = cin ∧ ∀ i, i < 7 → r.getLsbD i = v.getLsbD (i + 1)
  | .sla => cout = v.getLsbD 7 ∧ r.getLsbD 0 = false ∧ ∀ i, i < 7 → r.getLsbD (i + 1) = v.getLsbD i
  | .sra => cout = v.getLsbD 0 ∧ r.getLsbD 7 = v.getLsbD 7 ∧ ∀ i, i < 7 → r.getLsbD i = v.getLsbD (i + 1)
  | .swap => cout = false ∧ ∀ i, i < 4 → r.getLsbD i = v.getLsbD (i + 4) ∧ r.getLsbD (i + 4) = v.getLsbD i
  | .srl => cout = v.getLsbD 0 ∧ r.getLsbD 7 = false ∧ ∀ i, i < 7 → r.getLsbD i = v.getLsbD (i + 1)

/-- The result of a rotate or shift, as the machine's own function gives it, satisfies the rule: the byte a (HL) form
writes. -/
def RotWritten (op : RotOp) (v : Byte) (s : State) (r : Byte) (t : State) : Prop :=
  ∃ cout, RotGives op v s.flagC r cout ∧ FlagsBecome (decide (r = 0)) false false cout t

/-- R9: the number an r8 displacement stands for. -/
def displacement (e : Byte) : Int := if e.toNat < 128 then e.toNat else (e.toNat : Int) - 256

/-- R236, R313: the flags of SP plus displacement, from SP's low byte and the byte `e` unsigned. -/
def SpOffsetFlags (sp : Word) (e : Byte) (t : State) : Prop :=
  t.flagZ = false ∧ t.flagN = false ∧ (t.flagH = true ↔ sp.toNat % 16 + e.toNat % 16 > 0x0F) ∧
    (t.flagC = true ↔ sp.toNat % 256 + e.toNat > 0xFF) ∧ t.f &&& 0x0F = 0

/-- R12: one flag before and after, against the table's character for it. -/
def FlagObeys : FlagEffect → Bool → Bool → Prop
  | .kept, before, after => after = before
  | .cleared, _, after => after = false
  | .set, _, after => after = true
  | .computed, _, _ => True

/-- R106: the condition `cc` on the flags of `s`. -/
def condHolds (cc : Cond) (s : State) : Prop :=
  match cc with
  | .nz => s.flagZ = false
  | .z => s.flagZ = true
  | .nc => s.flagC = false
  | .c => s.flagC = true

/-- The events of fetching the bytes `vs` from `a` on, added to the outputs `es`. -/
def fetchEvents : List Byte → Word → List Event → List Event
  | [], _, es => es
  | v :: vs, a, es => fetchEvents vs (a + 1) (.fetch a v :: es)

/-- The bytes `vs` stand from `a` on, each readable as plain memory. -/
def HoldsBytes : List Byte → Word → State → Prop
  | [], _, _ => True
  | v :: vs, a, s => s.readsPlain a = true ∧ s.byteAt a = v ∧ HoldsBytes vs (a + 1) s

/-- The byte of the last completed write to `a` among the outputs `es` (newest first, log 11), if there is one. -/
def lastWrite (a : Word) : List Event → Option Byte
  | [] => none
  | .write b v :: es => if b = a then some v else lastWrite a es
  | .fetch _ _ :: es => lastWrite a es
  | .read _ _ :: es => lastWrite a es
  | .report _ :: es => lastWrite a es

/-- The host's next move is a step without a stop request, or none is pending; `rest` is what is pending after. -/
def NextMoveIsStep (wake : Bool) (rest : List HostMove) (s : State) : Prop :=
  (s.host = [] ∧ rest = [] ∧ wake = false) ∨ s.host = .step wake false :: rest

/-- No register, flag or control bit of the core moves. -/
def SameCore (s t : State) : Prop :=
  SameReg8 s t ∧ t.f = s.f ∧ t.sp = s.sp ∧ t.pc = s.pc ∧ SameControl s t

end Sys2Proof.Machine

open Sys2Proof Sys2Proof.Machine

/-! ### Encoding -/

/-- R100, R111, R114, R73: whatever bytes follow, decoding an instruction's bytes gives the instruction and those
bytes. The placeholder (R113) is the one ill-formed term. -/
def Obligations.DecodeOfEncodeIsTheInstruction : Prop :=
  ∀ (i : Instr) (rest : List Byte), i.wellFormed = true → decode (encode i ++ rest) = .ok (i, rest)

/-- R115, R116: bytes that decode are exactly the encoding of what they decode to, which is well-formed. -/
def Obligations.EncodeOfDecodeIsTheBytes : Prop :=
  ∀ (bs : List Byte) (i : Instr) (rest : List Byte), decode bs = .ok (i, rest) →
    i.wellFormed = true ∧ bs = encode i ++ rest

/-- R116: the first byte fixes the length; the bytes of one instruction are 1 to 3 (R100), and with three bytes at hand
every first byte selects an instruction (R115, R453), never the placeholder (R147). -/
def Obligations.FirstByteFixesTheLength : Prop :=
  ∀ (op : Byte) (bs : List Byte), 2 ≤ bs.length →
    ∃ i rest, decode (op :: bs) = .ok (i, rest) ∧ i ≠ .prefixCb ∧
      (op :: bs).length = rest.length + (if op = 0xCB then 2 else (lookup false op).length) ∧
      (encode i).length = (descriptor i).length ∧ (encode i).length ∈ [1, 2, 3]

/-- R111, R114: words written out from the spec's encodings, one or more of each family. -/
def Obligations.WordsOfEachFamilyDecode : Prop :=
  decode [0x78] = .ok (.ldA_B, []) ∧ decode [0x36, 0x5A] = .ok (.ldMemHL_d8 0x5A, []) ∧
  decode [0x01, 0x34, 0x12] = .ok (.ldBC_d16 0x1234, []) ∧ decode [0xF1] = .ok (.popAF, []) ∧
  decode [0x8B] = .ok (.adcA_E, []) ∧ decode [0xFE, 0x3C] = .ok (.cpD8 0x3C, []) ∧
  decode [0x39] = .ok (.addHL_SP, []) ∧ decode [0xCB, 0x37] = .ok (.swapA, []) ∧
  decode [0xCB, 0xCB] = .ok (.set1_E, []) ∧ decode [0xC3, 0x00, 0x02] = .ok (.jpA16 0x0200, []) ∧
  decode [0x38, 0xFC] = .ok (.jrC_r8 0xFC, []) ∧ decode [0xD9] = .ok (.reti, []) ∧
  decode [0x76] = .ok (.halt, []) ∧ decode [0xFD, 0x00] = .ok (.illegalFD, [0x00])

/-! ### The step -/

/-- R140 to R145: with the instruction's bytes at PC, the step is exec of it on the state with the fetches recorded,
then the delayed enable of R145 (not after a BusFault, R150). -/
def Obligations.StepRunsTheDecodedInstruction : Prop :=
  ∀ (s : State) (i : Instr) (bs : List Byte) (wake : Bool) (rest : List HostMove),
    s.fault = none → s.run = .running → NextMoveIsStep wake rest s →
    decode bs = .ok (i, []) → HoldsBytes bs s.pc s →
    step s = endStep s.imePending
      (exec i { s with host := rest, trace := fetchEvents bs s.pc s.trace })

/-- R145: at the end of a Running step that met no fault, an enable pending at its start and still pending takes effect,
and nothing else changes; after a fault nothing does (R150). -/
def Obligations.DelayedEnableAtEndOfStep : Prop :=
  ∀ (pending : Bool) (u : State),
    (u.fault = none → endStep pending (.next u) =
      .next { u with ime := u.ime || (pending && u.imePending), imePending := u.imePending && !pending }) ∧
    (u.fault ≠ none → endStep pending (.next u) = .next u)

/-- R146: a step that begins in Halted makes no bus access; with wake it only returns to Running, adding and reporting
0; without it only 4 cycles are added and reported. -/
def Obligations.HaltedStepsWaitForWake : Prop :=
  ∀ (s : State) (wake : Bool) (rest : List HostMove),
    s.fault = none → s.run = .halted → NextMoveIsStep wake rest s →
    step s = .next (if wake then { s with host := rest, run := .running, trace := .report 0 :: s.trace }
      else { s with host := rest, cycles := s.cycles + 4, trace := .report 4 :: s.trace })

/-- R148, R55: a step whose stop request is present is not taken, and the run is over. R45, R451: while a BusFault is
recorded the core takes no step and accepts no interrupt entry. -/
def Obligations.StopRequestAndFaultEndTheRun : Prop :=
  (∀ (s : State) (wake : Bool) (rest : List HostMove),
    s.fault = none → s.host = .step wake true :: rest → step s = .fault .runEnded) ∧
  ∀ (s : State) (r : BusFault), s.fault = some r →
    (∀ wake stopReq rest, s.host = [] ∨ s.host = .step wake stopReq :: rest → step s = .fault (.busFault r)) ∧
    (∀ v rest, s.host = .interruptEntry v :: rest → step s = .refused .hostMoveAgainstPrecondition)

/-- R450, R150, R451: an opcode fetch the bus rejects ends the step with the record of it; a BusFault on any fetch
leaves PC at the instruction's address, and every register, flag, byte of memory and the cycle count as they were. That
a rejected access of a device is counted, and one of plain memory is not, is the model's choice (log 4). -/
def Obligations.FetchFaultLeavesTheCoreUnmoved : Prop :=
  ∀ (s t : State) (a : Word) (wake : Bool) (rest : List HostMove),
    s.fault = none → s.run = .running → NextMoveIsStep wake rest s →
    (s.readAnswer s.pc = none → step s = .next
      { s.countAccess s.pc with host := rest, fault := some ⟨.fetch, s.pc⟩ }) ∧
    (step s = .next t → t.fault = some ⟨.fetch, a⟩ → t.pc = s.pc ∧ SameReg8 s t ∧ t.f = s.f ∧ t.sp = s.sp ∧
      t.ime = s.ime ∧ t.imePending = s.imePending ∧ t.run = s.run ∧ t.cycles = s.cycles ∧ SameMemory s t ∧
      (a = s.pc ∨ a = s.pc + 1 ∨ a = s.pc + 2))

/-- R54, R144, R451: a step without a fault makes exactly one cycle report, its last output, of what it adds to
`cycles`; a step that ends at a BusFault makes none and adds nothing. The host's reset (R502) reports nothing. -/
def Obligations.EveryStepReportsOnceWhatItAdds : Prop :=
  ∀ (s t : State), s.fault = none → step s = .next t →
    (∀ p draw rest, s.host ≠ .reset p draw :: rest) →
    ∃ es : List Event, (∀ e ∈ es, e.isReport = false) ∧
      ((t.fault = none ∧ ∃ n, t.cycles = s.cycles + n ∧ t.trace = .report n :: (es ++ s.trace)) ∨
       (t.fault ≠ none ∧ t.cycles = s.cycles ∧ t.trace = es ++ s.trace))

/-! ### Invariants that every step keeps -/

/-- R32: the low nibble of F is zero after every step from a state in which it is. -/
def Obligations.LowNibbleOfFStaysZero : Prop :=
  ∀ s t : State, s.lowNibbleZero → step s = .next t → t.lowNibbleZero

/-- Every step keeps memory in its canonical form: 65,536 addresses (R70), each listed at most once, in order. -/
def Obligations.MemoryStaysCanonical : Prop :=
  ∀ s t : State, s.memoryCanonical → step s = .next t → t.memoryCanonical

/-- D7: the cycle counter stays a multiple of 4 (R521: four T-cycles to one machine cycle). -/
def Obligations.CyclesStayWholeMachineCycles : Prop :=
  ∀ s t : State, s.wholeMachineCycles → step s = .next t → t.wholeMachineCycles

/-- The three invariants hold at reset. -/
def Obligations.ResetMeetsTheInvariants : Prop :=
  State.reset.lowNibbleZero ∧ State.reset.memoryCanonical ∧ State.reset.wholeMachineCycles

/-- R500, R501, R502: reset writes every element of the core's state as the profile says, every register the draw's
under `unspecified`, with F[3:0] = 0, and changes nothing behind the bus. That the host can reset a faulted core is
log 19 (DEDUCED); that the bus map, the device counter, the host's later moves and the trace stay is the model's (log 3,
log 4, log 7, log 11). -/
def Obligations.ResetWritesTheProfile : Prop :=
  ∀ (s : State) (p : Config.ResetProfile) (draw : Config.ResetRegisters) (rest : List HostMove),
    s.host = .reset p draw :: rest →
    ∃ t, step s = .next t ∧ t.ime = false ∧ t.imePending = false ∧ t.run = .running ∧ t.cycles = 0 ∧
      t.fault = none ∧ t.mem = s.mem ∧ t.busMap = s.busMap ∧ t.deviceAccesses = s.deviceAccesses ∧
      t.trace = s.trace ∧ t.host = rest ∧ t.f &&& 0x0F = 0 ∧
      (p = .unspecified → t.pc = 0x0000 ∧ t.sp = draw.sp ∧ t.a = draw.a ∧ t.b = draw.b ∧ t.c = draw.c ∧
        t.d = draw.d ∧ t.e = draw.e ∧ t.h = draw.h ∧ t.l = draw.l ∧
        t.flagZ = draw.f.getLsbD 7 ∧ t.flagN = draw.f.getLsbD 6 ∧ t.flagH = draw.f.getLsbD 5 ∧
        t.flagC = draw.f.getLsbD 4) ∧
      (p = .dmgPostBoot → t.pc = 0x0100 ∧ t.sp = 0xFFFE ∧ t.a = 0x01 ∧ t.f = 0xB0 ∧ t.b = 0x00 ∧ t.c = 0x13 ∧
        t.d = 0x00 ∧ t.e = 0xD8 ∧ t.h = 0x01 ∧ t.l = 0x4D)

/-! ### Rules of the whole machine -/

/-- R12, R37: no instruction writes a flag beyond what its `flags_ZNHC` string says: a kept flag is kept, a constant
one has its constant. -/
def Obligations.FlagsObeyTheTable : Prop :=
  ∀ (i : Instr) (s t : State), s.fault = none → exec i s = .next t → t.fault = none →
    FlagObeys (descriptor i).effectZ s.flagZ t.flagZ ∧ FlagObeys (descriptor i).effectN s.flagN t.flagN ∧
    FlagObeys (descriptor i).effectH s.flagH t.flagH ∧ FlagObeys (descriptor i).effectC s.flagC t.flagC

/-- R144, R120: an instruction that meets no fault adds its descriptor's base count or its branch-taken count. -/
def Obligations.CyclesAreTheDescriptors : Prop :=
  ∀ (i : Instr) (s t : State), s.fault = none → exec i s = .next t → t.fault = none →
    t.cycles = s.cycles + (descriptor i).cycles ∨
    ∃ k, (descriptor i).cyclesTaken = some k ∧ t.cycles = s.cycles + k

/-- R40, R41, R42: of all instructions only DI, EI and RETI write `ime` or `ime_pending`, EI not `ime`; only HALT and
STOP write `run`, and they write Halted. -/
def Obligations.OnlyTheNamedInstructionsWriteControlState : Prop :=
  ∀ (i : Instr) (s t : State), exec i s = .next t →
    (t.ime = s.ime ∨ i = .di ∨ i = .reti) ∧ (t.imePending = s.imePending ∨ i = .di ∨ i = .reti ∨ i = .ei) ∧
    (t.run = s.run ∨ (t.run = .halted ∧ (i = .halt ∨ ∃ n, i = .stop n)))

/-- What an instruction leaves of what the model holds beside the core, all of it the model's choice and no rule: the bus
map (log 3; R71 lets a write have any side effect), the host's moves (log 7), the outputs made before (log 11) and the
count of device accesses (log 4), which does not go down. And of the core: `cycles` does not go down (R43), and a fault
recorded before stays unless the instruction ends at a fault of its own, adding nothing to `cycles` (R45, R451). -/
def Obligations.ExecKeepsThePlatform : Prop :=
  ∀ (i : Instr) (s t : State), exec i s = .next t →
    t.busMap = s.busMap ∧ t.host = s.host ∧ (∃ es, t.trace = es ++ s.trace) ∧ s.cycles ≤ t.cycles ∧
      s.deviceAccesses ≤ t.deviceAccesses ∧
      (t.fault = s.fault ∨ ∃ record, t.fault = some record ∧ t.cycles = s.cycles)

/-- R453, R465: every instruction may be executed in every state: exec neither faults nor refuses. -/
def Obligations.EveryInstructionExecutes : Prop :=
  ∀ (i : Instr) (s : State), ∃ t, exec i s = .next t

/-! ### Interrupt entry (R460) -/

/-- R460: on its precondition interrupt entry clears `ime` and `ime_pending`, pushes PC, goes to the host's vector and
costs 20 cycles; a rejected write ends it with the fault of R451. -/
def Obligations.InterruptEntryPushesPcAndMasks : Prop :=
  ∀ (s : State) (v : Word) (rest : List HostMove),
    s.host = .interruptEntry v :: rest → s.fault = none → s.run = .running → s.ime = true →
    (s.writeAccepted (s.sp - 1) = true → (s.countAccess (s.sp - 1)).writeAccepted (s.sp - 2) = true →
      ∃ t, step s = .next t ∧ t.pc = v ∧ t.sp = s.sp - 2 ∧ t.ime = false ∧ t.imePending = false ∧
        t.run = s.run ∧ t.fault = none ∧ t.cycles = s.cycles + 20 ∧ t.host = rest ∧ t.busMap = s.busMap ∧
        t.trace = .report 20 :: .write (s.sp - 2) (loByte s.pc) :: .write (s.sp - 1) (hiByte s.pc) :: s.trace ∧
        SameReg8 s t ∧ t.f = s.f ∧ StoredTwoBytes (s.sp - 1) (hiByte s.pc) (s.sp - 2) (loByte s.pc) s t) ∧
    (s.writeAccepted (s.sp - 1) = false →
      ∃ t, step s = .next t ∧ t.fault = some ⟨.write, s.sp - 1⟩ ∧ t.cycles = s.cycles ∧ t.trace = s.trace ∧
        SameMemory s t) ∧
    (s.writeAccepted (s.sp - 1) = true → (s.countAccess (s.sp - 1)).writeAccepted (s.sp - 2) = false →
      ∃ t, step s = .next t ∧ t.fault = some ⟨.write, s.sp - 2⟩ ∧ t.cycles = s.cycles ∧
        t.trace = .write (s.sp - 1) (hiByte s.pc) :: s.trace ∧ StoredByte (s.sp - 1) (hiByte s.pc) s t)

/-- R456, R460, R470 (log 8): against its precondition interrupt entry is a move outside the rules, which the model
refuses by name. -/
def Obligations.EntryAgainstPreconditionIsRefused : Prop :=
  ∀ (s : State) (v : Word) (rest : List HostMove), s.host = .interruptEntry v :: rest →
    s.ime = false ∨ s.run = .halted ∨ s.fault ≠ none → step s = .refused .hostMoveAgainstPrecondition

/-! ### 8-bit loads and stores -/

/-- R200, all 49 rows. -/
def Obligations.LdRegRegCopiesTheSource : Prop :=
  ∀ dst src : Reg8,
    encode (formLdRegReg dst src) = [BitVec.ofNat 8 (0x40 + 8 * dst.field + src.field)] ∧
    Quiet (formLdRegReg dst src) (past 1) (fun _ => 4)
      fun s t => Reg8Becomes dst (s.reg8 src) s t ∧ t.f = s.f ∧ t.sp = s.sp

/-- R201, all 7 rows. -/
def Obligations.LdRegImmLoadsTheByte : Prop :=
  ∀ (r : Reg8) (n : Byte),
    encode (formLdRegImm r n) = [BitVec.ofNat 8 (0x06 + 8 * r.field), n] ∧
    Quiet (formLdRegImm r n) (past 2) (fun _ => 8) fun s t => Reg8Becomes r n s t ∧ t.f = s.f ∧ t.sp = s.sp

/-- R202, R205, R206, R209, R211, R213: the loads of one byte, each with its address, length and cycles. -/
def Obligations.ByteLoadsReadTheirAddress : Prop :=
  let loads (r : Reg8) : Byte → State → State → Prop :=
    fun v s t => Reg8Becomes r v s t ∧ t.f = s.f ∧ t.sp = s.sp
  (∀ r : Reg8, encode (formLdRegHl r) = [BitVec.ofNat 8 (0x46 + 8 * r.field)] ∧
    ReadsOnce (formLdRegHl r) 1 8 (fun s => s.reg8 .h ++ s.reg8 .l) (loads r)) ∧
  (encode .ldA_MemBC = [0x0A] ∧ ReadsOnce .ldA_MemBC 1 8 (fun s => s.reg8 .b ++ s.reg8 .c) (loads .a)) ∧
  (encode .ldA_MemDE = [0x1A] ∧ ReadsOnce .ldA_MemDE 1 8 (fun s => s.reg8 .d ++ s.reg8 .e) (loads .a)) ∧
  (∀ n : Word, encode (.ldA_MemA16 n) = [0xFA, n.extractLsb' 0 8, n.extractLsb' 8 8] ∧
    ReadsOnce (.ldA_MemA16 n) 3 16 (fun _ => n) (loads .a)) ∧
  (∀ n : Byte, encode (.ldhA_MemA8 n) = [0xF0, n] ∧
    ReadsOnce (.ldhA_MemA8 n) 2 12 (fun _ => (0xFF : Byte) ++ n) (loads .a)) ∧
  (encode .ldA_MemC = [0xF2] ∧ ReadsOnce .ldA_MemC 1 8 (fun s => (0xFF : Byte) ++ s.reg8 .c) (loads .a))

/-- R203, R204, R207, R208, R210, R212, R214: the stores of one byte, each with its address, byte, length and
cycles. -/
def Obligations.ByteStoresWriteTheirAddress : Prop :=
  (∀ r : Reg8, encode (formLdHlReg r) = [BitVec.ofNat 8 (0x70 + r.field)] ∧
    WritesOnce (formLdHlReg r) 1 8 (fun s => s.reg8 .h ++ s.reg8 .l) (fun s => s.reg8 r) SameReg8) ∧
  (∀ n : Byte, encode (.ldMemHL_d8 n) = [0x36, n] ∧
    WritesOnce (.ldMemHL_d8 n) 2 12 (fun s => s.reg8 .h ++ s.reg8 .l) (fun _ => n) SameReg8) ∧
  (encode .ldMemBC_A = [0x02] ∧
    WritesOnce .ldMemBC_A 1 8 (fun s => s.reg8 .b ++ s.reg8 .c) (fun s => s.reg8 .a) SameReg8) ∧
  (encode .ldMemDE_A = [0x12] ∧
    WritesOnce .ldMemDE_A 1 8 (fun s => s.reg8 .d ++ s.reg8 .e) (fun s => s.reg8 .a) SameReg8) ∧
  (∀ n : Word, encode (.ldMemA16_A n) = [0xEA, n.extractLsb' 0 8, n.extractLsb' 8 8] ∧
    WritesOnce (.ldMemA16_A n) 3 16 (fun _ => n) (fun s => s.reg8 .a) SameReg8) ∧
  (∀ n : Byte, encode (.ldhMemA8_A n) = [0xE0, n] ∧
    WritesOnce (.ldhMemA8_A n) 2 12 (fun _ => (0xFF : Byte) ++ n) (fun s => s.reg8 .a) SameReg8) ∧
  (encode .ldMemC_A = [0xE2] ∧
    WritesOnce .ldMemC_A 1 8 (fun s => (0xFF : Byte) ++ s.reg8 .c) (fun s => s.reg8 .a) SameReg8)

/-- R215, R216, R217, R218: the access at the old HL, then HL up or down by one modulo 2^16, no flag. -/
def Obligations.PostOpLoadsMoveHlAfterTheAccess : Prop :=
  let hlMoved (delta : Word) (s t : State) : Prop := ∃ v : Word, v = (s.reg8 .h ++ s.reg8 .l) + delta ∧
    t.reg8 .h = v.extractLsb' 8 8 ∧ t.reg8 .l = v.extractLsb' 0 8
  let others (s t : State) : Prop := ∀ q : Reg8, q ≠ .h → q ≠ .l → q ≠ .a → t.reg8 q = s.reg8 q
  let load (delta : Word) : Byte → State → State → Prop :=
    fun v s t => t.reg8 .a = v ∧ hlMoved delta s t ∧ others s t ∧ t.f = s.f ∧ t.sp = s.sp
  let store (delta : Word) : State → State → Prop :=
    fun s t => t.reg8 .a = s.reg8 .a ∧ hlMoved delta s t ∧ others s t
  (encode .ldA_MemHLInc = [0x2A] ∧ ReadsOnce .ldA_MemHLInc 1 8 (fun s => s.reg8 .h ++ s.reg8 .l) (load 1)) ∧
  (encode .ldA_MemHLDec = [0x3A] ∧ ReadsOnce .ldA_MemHLDec 1 8 (fun s => s.reg8 .h ++ s.reg8 .l) (load (-1))) ∧
  (encode .ldMemHLInc_A = [0x22] ∧
    WritesOnce .ldMemHLInc_A 1 8 (fun s => s.reg8 .h ++ s.reg8 .l) (fun s => s.reg8 .a) (store 1)) ∧
  (encode .ldMemHLDec_A = [0x32] ∧
    WritesOnce .ldMemHLDec_A 1 8 (fun s => s.reg8 .h ++ s.reg8 .l) (fun s => s.reg8 .a) (store (-1)))

/-! ### 16-bit loads and the stack -/

/-- R230, all 4 rows, and R232. -/
def Obligations.WordLoadsSetThePair : Prop :=
  (∀ (rr : Pair) (n : Word),
    encode (formLdPairImm rr n) = [BitVec.ofNat 8 (0x01 + 16 * rr.field), n.extractLsb' 0 8, n.extractLsb' 8 8] ∧
    Quiet (formLdPairImm rr n) (past 3) (fun _ => 12) fun s t => PairBecomes rr n s t ∧ t.f = s.f) ∧
  encode .ldSP_HL = [0xF9] ∧
  Quiet .ldSP_HL (past 1) (fun _ => 8)
    fun s t => PairBecomes .sp (s.reg8 .h ++ s.reg8 .l) s t ∧ t.f = s.f

/-- R231: the low byte of SP to a16, then the high byte to a16 + 1 modulo 2^16; if the second write faults the first
stands. -/
def Obligations.LdMemSpStoresLowThenHigh : Prop :=
  ∀ (n : Word) (s : State),
    encode (.ldMemA16_SP n) = [0x08, n.extractLsb' 0 8, n.extractLsb' 8 8] ∧
    (s.writeAccepted n = true →
      ((s.countAccess n).writeAccepted (n + 1) = true →
        CompletesWith (exec (.ldMemA16_SP n) s) s (past 3 s) 20
          [.write (n + 1) (s.sp.extractLsb' 8 8), .write n (s.sp.extractLsb' 0 8)]
          fun s t => StoredTwoBytes n (s.sp.extractLsb' 0 8) (n + 1) (s.sp.extractLsb' 8 8) s t ∧
            SameReg8 s t ∧ t.f = s.f ∧ t.sp = s.sp) ∧
      ((s.countAccess n).writeAccepted (n + 1) = false →
        EndsAtFault (exec (.ldMemA16_SP n) s) s (past 3 s) .write (n + 1) [.write n (s.sp.extractLsb' 0 8)]
          (StoredByte n (s.sp.extractLsb' 0 8)))) ∧
    (s.writeAccepted n = false → EndsAtFault (exec (.ldMemA16_SP n) s) s (past 3 s) .write n [] SameMemory)

/-- R236: HL becomes SP plus the signed displacement modulo 2^16; flags of the unsigned low-byte addition; SP is
unchanged. -/
def Obligations.LdHlSpOffsetAddsTheDisplacement : Prop :=
  ∀ e : Byte, encode (.ldHL_SPr8 e) = [0xF8, e] ∧
    Quiet (.ldHL_SPr8 e) (past 2) (fun _ => 12) fun s t =>
      (∃ v : Word, (v.toNat : Int) = ((s.sp.toNat : Int) + displacement e) % 65536 ∧ PairBecomes .hl v s t) ∧
      SpOffsetFlags s.sp e t

/-- R233, all 4 rows: the pair's high byte to SP-1, its low byte to SP-2. -/
def Obligations.PushStoresThePair : Prop :=
  let value (rr : StackPair) (s : State) : Word :=
    match rr with
    | .bc => s.reg8 .b ++ s.reg8 .c
    | .de => s.reg8 .d ++ s.reg8 .e
    | .hl => s.reg8 .h ++ s.reg8 .l
    | .af => s.reg8 .a ++ s.f
  ∀ (rr : StackPair) (s : State),
    encode (formPush rr) = [BitVec.ofNat 8 (0xC5 + 16 * rr.field)] ∧
    PushesWord (exec (formPush rr) s) s (past 1 s) (value rr s) (past 1 s) 16

/-- R234 and R235: the pair is the word popped; POP AF loads the four flags from bits 7..4 of the low byte and
discards bits 3..0. -/
def Obligations.PopLoadsThePair : Prop :=
  let written (rr : StackPair) (v : Word) (s t : State) : Prop :=
    match rr with
    | .bc => BytesBecome .b .c v s t ∧ t.f = s.f
    | .de => BytesBecome .d .e v s t ∧ t.f = s.f
    | .hl => BytesBecome .h .l v s t ∧ t.f = s.f
    | .af => Reg8Becomes .a (v.extractLsb' 8 8) s t ∧
        FlagsBecome (v.getLsbD 7) (v.getLsbD 6) (v.getLsbD 5) (v.getLsbD 4) t
  ∀ (rr : StackPair) (s : State),
    encode (formPop rr) = [BitVec.ofNat 8 (0xC1 + 16 * rr.field)] ∧
    PopsWord (exec (formPop rr) s) s (past 1 s) (fun _ => past 1 s) 12 SameControl (written rr)

/-! ### 8-bit arithmetic and logic -/

/-- R250 to R257: the machine's ALU function is the spec's, for every operation, operands and carry. -/
def Obligations.AluFunctionsAreTheSpecs : Prop :=
  ∀ (op : AluOp) (a b : Byte) (cin : Bool),
    AluGives op a b cin (alu8 op a b cin).result (alu8 op a b cin).z (alu8 op a b cin).n (alu8 op a b cin).h
      (alu8 op a b cin).c

/-- R261, R264, R267, R270, R273, R276, R279, R282, all 56 rows with a register operand. -/
def Obligations.AluOnRegisterWritesAAndFlags : Prop :=
  ∀ (op : AluOp) (r : Reg8),
    encode (formAluReg op r) = [BitVec.ofNat 8 (0x80 + 8 * op.field + r.field)] ∧
    Quiet (formAluReg op r) (past 1) (fun _ => 4) fun s t => AluWritten op (s.reg8 r) s t

/-- R262, R265, R268, R271, R274, R277, R280, R283, the 8 rows with operand (HL): one read. -/
def Obligations.AluOnMemoryWritesAAndFlags : Prop :=
  ∀ op : AluOp,
    encode (formAluMem op) = [BitVec.ofNat 8 (0x86 + 8 * op.field)] ∧
    ReadsOnce (formAluMem op) 1 8 (fun s => s.reg8 .h ++ s.reg8 .l) (AluWritten op)

/-- R263, R266, R269, R272, R275, R278, R281, R284, the 8 rows with an immediate. -/
def Obligations.AluOnImmediateWritesAAndFlags : Prop :=
  ∀ (op : AluOp) (n : Byte),
    encode (formAluImm op n) = [BitVec.ofNat 8 (0xC6 + 8 * op.field), n] ∧
    Quiet (formAluImm op n) (past 2) (fun _ => 8) (AluWritten op n)

/-- R285 and R287, all 14 rows: the register up or down by one modulo 2^8; C is not written. -/
def Obligations.IncDecRegisterKeepCarry : Prop :=
  ∀ r : Reg8,
    encode (formIncReg r) = [BitVec.ofNat 8 (0x04 + 8 * r.field)] ∧
    Quiet (formIncReg r) (past 1) (fun _ => 4)
      (fun s t => Reg8Becomes r (BitVec.ofNat 8 ((s.reg8 r).toNat + 1)) s t ∧ IncFlags (s.reg8 r) s t ∧
        t.sp = s.sp) ∧
    encode (formDecReg r) = [BitVec.ofNat 8 (0x05 + 8 * r.field)] ∧
    Quiet (formDecReg r) (past 1) (fun _ => 4)
      (fun s t => Reg8Becomes r (BitVec.ofNat 8 ((s.reg8 r).toNat + 255)) s t ∧ DecFlags (s.reg8 r) s t ∧
        t.sp = s.sp)

/-- R286 and R288: a read at HL, then a write of the byte up or down by one; the flags only if the write completes. -/
def Obligations.IncDecMemoryReadThenWrite : Prop :=
  encode .incMemHL = [0x34] ∧
  ReadModifyWrites .incMemHL 1 12 (fun _ v => BitVec.ofNat 8 (v.toNat + 1)) IncFlags ∧
  encode .decMemHL = [0x35] ∧
  ReadModifyWrites .decMemHL 1 12 (fun _ v => BitVec.ofNat 8 (v.toNat + 255)) DecFlags

/-- R289: A is the adjusted number modulo 2^8, Z from it, N kept, H cleared, C as the pseudocode says. -/
def Obligations.DaaAdjustsA : Prop :=
  encode .daa = [0x27] ∧
  Quiet .daa (past 1) (fun _ => 4) fun s t =>
    let r := daaAdjusted s.a.toNat s.flagN s.flagH s.flagC
    (t.a.toNat : Int) = r.1 % 256 ∧ (t.flagZ = true ↔ r.1 % 256 = 0) ∧ t.flagN = s.flagN ∧ t.flagH = false ∧
      t.flagC = r.2 ∧ t.f &&& 0x0F = 0 ∧ (∀ q : Reg8, q ≠ .a → t.reg8 q = s.reg8 q) ∧ t.sp = s.sp

/-- R290, R291, R292: CPL, SCF and CCF. -/
def Obligations.CplScfCcfWriteTheirFlags : Prop :=
  encode .cpl = [0x2F] ∧
  Quiet .cpl (past 1) (fun _ => 4) (fun s t =>
    (∀ i, i < 8 → t.a.getLsbD i = !s.a.getLsbD i) ∧ FlagsBecome s.flagZ true true s.flagC t ∧
    (∀ q : Reg8, q ≠ .a → t.reg8 q = s.reg8 q) ∧ t.sp = s.sp) ∧
  encode .scf = [0x37] ∧
  Quiet .scf (past 1) (fun _ => 4)
    (fun s t => FlagsBecome s.flagZ false false true t ∧ SameReg8 s t ∧ t.sp = s.sp) ∧
  encode .ccf = [0x3F] ∧
  Quiet .ccf (past 1) (fun _ => 4)
    (fun s t => FlagsBecome s.flagZ false false (!s.flagC) t ∧ SameReg8 s t ∧ t.sp = s.sp)

/-! ### 16-bit arithmetic -/

/-- R310, all 4 rows: HL plus the pair modulo 2^16; H from bit 11, C from bit 15, N cleared, Z kept. -/
def Obligations.AddHlCarriesFromBits11And15 : Prop :=
  ∀ rr : Pair,
    encode (formAddHl rr) = [BitVec.ofNat 8 (0x09 + 16 * rr.field)] ∧
    Quiet (formAddHl rr) (past 1) (fun _ => 8) fun s t =>
      let x := (s.pair .hl).toNat
      let y := (s.pair rr).toNat
      PairBecomes .hl (BitVec.ofNat 16 (x + y)) s t ∧ t.flagZ = s.flagZ ∧ t.flagN = false ∧
        (t.flagH = true ↔ x % 4096 + y % 4096 > 0x0FFF) ∧ (t.flagC = true ↔ x + y > 0xFFFF) ∧ t.f &&& 0x0F = 0

/-- R311 and R312, all 8 rows: the pair up or down by one modulo 2^16, no flag. -/
def Obligations.IncDecPairWriteNoFlag : Prop :=
  ∀ rr : Pair,
    encode (formIncPair rr) = [BitVec.ofNat 8 (0x03 + 16 * rr.field)] ∧
    Quiet (formIncPair rr) (past 1) (fun _ => 8)
      (fun s t => PairBecomes rr (BitVec.ofNat 16 ((s.pair rr).toNat + 1)) s t ∧ t.f = s.f) ∧
    encode (formDecPair rr) = [BitVec.ofNat 8 (0x0B + 16 * rr.field)] ∧
    Quiet (formDecPair rr) (past 1) (fun _ => 8)
      (fun s t => PairBecomes rr (BitVec.ofNat 16 ((s.pair rr).toNat + 65535)) s t ∧ t.f = s.f)

/-- R313: SP plus the signed displacement modulo 2^16, flags of the unsigned low-byte addition. -/
def Obligations.AddSpAddsTheDisplacement : Prop :=
  ∀ e : Byte, encode (.addSP_r8 e) = [0xE8, e] ∧
    Quiet (.addSP_r8 e) (past 2) (fun _ => 16) fun s t =>
      (t.sp.toNat : Int) = ((s.sp.toNat : Int) + displacement e) % 65536 ∧ SameReg8 s t ∧ SpOffsetFlags s.sp e t

/-! ### Rotates, shifts and bit operations -/

/-- R330 to R333: the rotates of A clear Z, N and H and put the bit out into C. -/
def Obligations.AccumulatorRotatesClearZ : Prop :=
  let rotates (i : Instr) (op : RotOp) : Prop :=
    Quiet i (past 1) (fun _ => 4) fun s t =>
      (∃ cout, RotGives op s.a s.flagC t.a cout ∧ FlagsBecome false false false cout t) ∧
      (∀ q : Reg8, q ≠ .a → t.reg8 q = s.reg8 q) ∧ t.sp = s.sp
  encode .rlca = [0x07] ∧ rotates .rlca .rlc ∧ encode .rrca = [0x0F] ∧ rotates .rrca .rrc ∧
  encode .rla = [0x17] ∧ rotates .rla .rl ∧ encode .rra = [0x1F] ∧ rotates .rra .rr

/-- R340, R342, R344, R346, R348, R350, R352, R354, all 56 register rows. -/
def Obligations.RotatesOnRegister : Prop :=
  ∀ (op : RotOp) (r : Reg8),
    encode (formRotReg op r) = [0xCB, BitVec.ofNat 8 (8 * op.field + r.field)] ∧
    Quiet (formRotReg op r) (past 2) (fun _ => 8) fun s t =>
      RotWritten op (s.reg8 r) s (t.reg8 r) t ∧ (∀ q : Reg8, q ≠ r → t.reg8 q = s.reg8 q) ∧ t.sp = s.sp

/-- R341, R343, R345, R347, R349, R351, R353, R355, the 8 (HL) rows: a read, then a write, at HL. -/
def Obligations.RotatesOnMemory : Prop :=
  ∀ op : RotOp,
    encode (formRotMem op) = [0xCB, BitVec.ofNat 8 (8 * op.field + 6)] ∧
    ∃ f : Byte → Bool → Byte,
      ReadModifyWrites (formRotMem op) 2 16 (fun s v => f v s.flagC)
        (fun v s t => RotWritten op v s (f v s.flagC) t)

/-- R356 and R357, all 64 rows: Z is the complement of the bit, N cleared, H set, C kept; nothing is written back. -/
def Obligations.BitTestsOneBit : Prop :=
  (∀ (b : Fin 8) (r : Reg8),
    encode (formBitReg b r) = [0xCB, BitVec.ofNat 8 (0x40 + 8 * b.val + r.field)] ∧
    Quiet (formBitReg b r) (past 2) (fun _ => 8) fun s t =>
      FlagsBecome (!(s.reg8 r).getLsbD b.val) false true s.flagC t ∧ SameReg8 s t ∧ t.sp = s.sp) ∧
  ∀ b : Fin 8,
    encode (formBitMem b) = [0xCB, BitVec.ofNat 8 (0x46 + 8 * b.val)] ∧
    ReadsOnce (formBitMem b) 2 12 (fun s => s.reg8 .h ++ s.reg8 .l) fun v s t =>
      FlagsBecome (!v.getLsbD b.val) false true s.flagC t ∧ SameReg8 s t ∧ t.sp = s.sp

/-- R358 and R360, all 112 register rows: exactly the named bit is cleared or set; no flag. -/
def Obligations.ResAndSetOnRegister : Prop :=
  ∀ (b : Fin 8) (r : Reg8),
    encode (formResReg b r) = [0xCB, BitVec.ofNat 8 (0x80 + 8 * b.val + r.field)] ∧
    Quiet (formResReg b r) (past 2) (fun _ => 8)
      (fun s t => (∀ i, (t.reg8 r).getLsbD i = ((s.reg8 r).getLsbD i && decide (i ≠ b.val))) ∧
        (∀ q : Reg8, q ≠ r → t.reg8 q = s.reg8 q) ∧ t.f = s.f ∧ t.sp = s.sp) ∧
    encode (formSetReg b r) = [0xCB, BitVec.ofNat 8 (0xC0 + 8 * b.val + r.field)] ∧
    Quiet (formSetReg b r) (past 2) (fun _ => 8)
      (fun s t => (∀ i, (t.reg8 r).getLsbD i = ((s.reg8 r).getLsbD i || decide (i = b.val))) ∧
        (∀ q : Reg8, q ≠ r → t.reg8 q = s.reg8 q) ∧ t.f = s.f ∧ t.sp = s.sp)

/-- R359 and R361, all 16 (HL) rows: a read, then a write of the byte with exactly the named bit cleared or set. -/
def Obligations.ResAndSetOnMemory : Prop :=
  ∀ b : Fin 8,
    encode (formResMem b) = [0xCB, BitVec.ofNat 8 (0x86 + 8 * b.val)] ∧
    (∃ f : Byte → Byte, (∀ v i, (f v).getLsbD i = (v.getLsbD i && decide (i ≠ b.val))) ∧
      ReadModifyWrites (formResMem b) 2 16 (fun _ v => f v) (fun _ s t => t.f = s.f)) ∧
    encode (formSetMem b) = [0xCB, BitVec.ofNat 8 (0xC6 + 8 * b.val)] ∧
    (∃ f : Byte → Byte, (∀ v i, (f v).getLsbD i = (v.getLsbD i || decide (i = b.val))) ∧
      ReadModifyWrites (formSetMem b) 2 16 (fun _ v => f v) (fun _ s t => t.f = s.f))

/-! ### Control flow -/

/-- R380, R381, R382: absolute jumps; the conditional form charges 16 taken, 12 not taken. -/
def Obligations.AbsoluteJumpsSetPc : Prop :=
  let keeps (s t : State) : Prop := SameReg8 s t ∧ t.f = s.f ∧ t.sp = s.sp
  (∀ n : Word, encode (.jpA16 n) = [0xC3, n.extractLsb' 0 8, n.extractLsb' 8 8] ∧
    Quiet (.jpA16 n) (fun _ => n) (fun _ => 16) keeps) ∧
  (∀ (cc : Cond) (n : Word),
    encode (formJpIf cc n) = [BitVec.ofNat 8 (0xC2 + 8 * cc.field), n.extractLsb' 0 8, n.extractLsb' 8 8] ∧
    ∀ s, (condHolds cc s →
        CompletesWith (exec (formJpIf cc n) s) s n 16 [] fun s t => SameMemory s t ∧ keeps s t) ∧
      (¬condHolds cc s →
        CompletesWith (exec (formJpIf cc n) s) s (past 3 s) 12 [] fun s t => SameMemory s t ∧ keeps s t)) ∧
  encode .jpHL = [0xE9] ∧ Quiet .jpHL (fun s => s.reg8 .h ++ s.reg8 .l) (fun _ => 4) keeps

/-- R383, R384: relative jumps count from the post-fetch PC, modulo 2^16; the conditional form charges 12 taken, 8 not
taken. -/
def Obligations.RelativeJumpsCountFromPostFetchPc : Prop :=
  let keeps (s t : State) : Prop := SameReg8 s t ∧ t.f = s.f ∧ t.sp = s.sp
  let target (e : Byte) (s : State) : Word := BitVec.ofInt 16 ((s.pc.toNat : Int) + 2 + displacement e)
  (∀ e : Byte, encode (.jrR8 e) = [0x18, e] ∧ Quiet (.jrR8 e) (target e) (fun _ => 12) keeps) ∧
  ∀ (cc : Cond) (e : Byte),
    encode (formJrIf cc e) = [BitVec.ofNat 8 (0x20 + 8 * cc.field), e] ∧
    ∀ s, (condHolds cc s →
        CompletesWith (exec (formJrIf cc e) s) s (target e s) 12 [] fun s t => SameMemory s t ∧ keeps s t) ∧
      (¬condHolds cc s →
        CompletesWith (exec (formJrIf cc e) s) s (past 2 s) 8 [] fun s t => SameMemory s t ∧ keeps s t)

/-- R385, R386, R390: calls and restarts push the post-fetch PC and go to their target; a call not taken does nothing
but move past itself. -/
def Obligations.CallsPushThePostFetchPc : Prop :=
  (∀ (n : Word) (s : State), encode (.callA16 n) = [0xCD, n.extractLsb' 0 8, n.extractLsb' 8 8] ∧
    PushesWord (exec (.callA16 n) s) s (past 3 s) (past 3 s) n 24) ∧
  (∀ (cc : Cond) (n : Word) (s : State),
    encode (formCallIf cc n) = [BitVec.ofNat 8 (0xC4 + 8 * cc.field), n.extractLsb' 0 8, n.extractLsb' 8 8] ∧
    (condHolds cc s → PushesWord (exec (formCallIf cc n) s) s (past 3 s) (past 3 s) n 24) ∧
    (¬condHolds cc s → CompletesWith (exec (formCallIf cc n) s) s (past 3 s) 12 [] fun s t =>
      SameMemory s t ∧ SameReg8 s t ∧ t.f = s.f ∧ t.sp = s.sp)) ∧
  ∀ (k : Fin 8) (s : State), encode (formRst k) = [BitVec.ofNat 8 (0xC7 + 8 * k.val)] ∧
    PushesWord (exec (formRst k) s) s (past 1 s) (past 1 s) (BitVec.ofNat 16 (8 * k.val)) 16

/-- R387, R388: returns pop PC; a return not taken leaves SP unchanged. -/
def Obligations.ReturnsPopPc : Prop :=
  let keeps (_ : Word) (s t : State) : Prop := SameReg8 s t ∧ t.f = s.f
  (∀ s : State, encode .ret = [0xC9] ∧ PopsWord (exec .ret s) s (past 1 s) id 16 SameControl keeps) ∧
  ∀ (cc : Cond) (s : State),
    encode (formRetIf cc) = [BitVec.ofNat 8 (0xC0 + 8 * cc.field)] ∧
    (condHolds cc s → PopsWord (exec (formRetIf cc) s) s (past 1 s) id 20 SameControl keeps) ∧
    (¬condHolds cc s → CompletesWith (exec (formRetIf cc) s) s (past 1 s) 8 [] fun s t =>
      SameMemory s t ∧ SameReg8 s t ∧ t.f = s.f ∧ t.sp = s.sp)

/-- R389, R461: RETI pops PC and sets `ime` at once, absorbing a pending enable; `ime` is not written if a read
faults. -/
def Obligations.RetiPopsPcAndEnablesAtOnce : Prop :=
  ∀ s : State, encode .reti = [0xD9] ∧
    PopsWord (exec .reti s) s (past 1 s) id 16
      (fun s t => t.ime = true ∧ t.imePending = false ∧ t.run = s.run ∧ t.fault = s.fault)
      (fun _ s t => SameReg8 s t ∧ t.f = s.f)

/-! ### Control of the core and no-ops -/

/-- R420, R425, R112: NOP and the eleven illegal bytes only move PC past themselves, in 4 cycles. -/
def Obligations.NopAndIllegalBytesOnlyAdvance : Prop :=
  encode .nop = [0x00] ∧
  illegalInstrs.map encode =
    [[0xD3], [0xDB], [0xDD], [0xE3], [0xE4], [0xEB], [0xEC], [0xED], [0xF4], [0xFC], [0xFD]] ∧
  ∀ i, i = .nop ∨ i ∈ illegalInstrs →
    Quiet i (past 1) (fun _ => 4) fun s t => SameReg8 s t ∧ t.f = s.f ∧ t.sp = s.sp

/-- The model's choice (log 12), not a rule: exec on the placeholder row, which no step reaches (R113, R147), does what
its descriptor holds: length 1, 4 cycles, no operand, no effect. -/
def Obligations.PlaceholderHasItsDescriptorsShape : Prop :=
  (∀ bs i rest, decode bs = .ok (i, rest) → i ≠ .prefixCb) ∧
  Quiet .prefixCb (past 1) (fun _ => 4) fun s t => SameReg8 s t ∧ t.f = s.f ∧ t.sp = s.sp

/-- R421, R422: HALT and STOP enter Halted whatever `ime` is, in 4 cycles; STOP is two bytes, its second ignored. -/
def Obligations.HaltAndStopEnterHalted : Prop :=
  let halts (i : Instr) (len : Nat) : Prop :=
    ∀ s, ∃ t, exec i s = .next t ∧ t.run = .halted ∧ t.pc = past len s ∧ t.cycles = s.cycles + 4 ∧
      t.trace = .report 4 :: s.trace ∧ SameMemory s t ∧ SamePlatform s t ∧
      t.deviceAccesses = s.deviceAccesses ∧ t.ime = s.ime ∧ t.imePending = s.imePending ∧ t.fault = s.fault ∧
      SameReg8 s t ∧ t.f = s.f ∧ t.sp = s.sp
  encode .halt = [0x76] ∧ halts .halt 1 ∧ ∀ n : Byte, encode (.stop n) = [0x10, n] ∧ halts (.stop n) 2

/-- R423, R424: DI clears `ime` and `ime_pending`; EI sets `ime_pending` and does not write `ime`. -/
def Obligations.DiDisablesAndEiWillEnable : Prop :=
  let writes (i : Instr) (ime : State → Bool) (pending : Bool) : Prop :=
    ∀ s, ∃ t, exec i s = .next t ∧ t.ime = ime s ∧ t.imePending = pending ∧ t.pc = past 1 s ∧
      t.cycles = s.cycles + 4 ∧ t.trace = .report 4 :: s.trace ∧ SameMemory s t ∧ SamePlatform s t ∧
      t.deviceAccesses = s.deviceAccesses ∧ t.run = s.run ∧ t.fault = s.fault ∧ SameReg8 s t ∧ t.f = s.f ∧
      t.sp = s.sp
  encode .di = [0xF3] ∧ writes .di (fun _ => false) false ∧ encode .ei = [0xFB] ∧ writes .ei (fun s => s.ime) true

/-! ### Two instructions in a row -/

/-- R88, R513, R85: for every instruction, the byte it last stored to an address that readable plain memory backs is what
the bus answers there next, and what the next fetch of that address reads; an address it stored nothing to keeps its
byte. The stores are read off the outputs the instruction added (log 11), plain memory is the bus map's (log 3). -/
def Obligations.FetchSeesEarlierStores : Prop :=
  ∀ (i : Instr) (s t : State) (es : List Event) (a : Word), exec i s = .next t → t.trace = es ++ s.trace →
    (∀ v, lastWrite a es = some v → (s.region a).backing = .memory → (s.region a).rejectsReads = false →
      t.readAnswer a = some v ∧ ∀ next, fetchByte a t next = next v (t.emit (.fetch a v))) ∧
    (lastWrite a es = none → t.byteAt a = s.byteAt a)

/-- R461, R462, R512 with R424 and R145: from Running with interrupts disabled and no EI pending, after the step that
runs EI the core still has `ime` 0, and whatever instruction then runs without a fault, `ime` is 1 at its end unless
the instruction is DI. -/
def Obligations.EiTakesEffectAfterTheNextInstruction : Prop :=
  ∀ (s u t : State) (i : Instr) (bs : List Byte),
    s.fault = none → s.run = .running → s.host = [] → s.ime = false → s.imePending = false →
    HoldsBytes [0xFB] s.pc s → step s = .next u → u.fault = none →
    u.ime = false ∧ u.imePending = true ∧
    (decode bs = .ok (i, []) → HoldsBytes bs u.pc u → step u = .next t → t.fault = none →
      t.imePending = false ∧ (t.ime = true ↔ i ≠ .di))
end

