-- ==== Sys2Proof/Laws/Memory.lean ====
section
/-! SUPPORT. Plain memory: a read after a write gives the byte written, a write leaves every other address alone, and
every memory operation keeps the canonical form. -/

namespace Sys2Proof.Machine

theorem memGet_memErase_same (m : List Host.Cell) (a : Nat) : memGet (memErase m a) a = Config.unlistedByte := by
  induction m with
  | nil => rfl
  | cons p m ih =>
    obtain ⟨k, v⟩ := p
    simp only [memErase]
    split
    · exact ih
    · simp [memGet, *]

theorem memGet_memErase_other (m : List Host.Cell) {a b : Nat} (h : b ≠ a) :
    memGet (memErase m a) b = memGet m b := by
  induction m with
  | nil => rfl
  | cons p m ih =>
    obtain ⟨k, v⟩ := p
    simp only [memErase]
    split
    · subst k; simp [memGet, ih, h]
    · simp [memGet, ih]

theorem memGet_memInsert_same (m : List Host.Cell) (a : Nat) (v : Byte)
    (h : ∀ w, (a, w) ∉ m) : memGet (memInsert m a v) a = v := by
  induction m with
  | nil => simp [memInsert, memGet]
  | cons p m ih =>
    obtain ⟨k, w⟩ := p
    simp only [memInsert]
    split
    · simp [memGet]
    · have hk : a ≠ k := fun e => h w (by simp [e])
      simp only [memGet, hk, if_false]
      exact ih fun w' hw => h w' (by simp [hw])

theorem memGet_memInsert_other (m : List Host.Cell) {a b : Nat} (v : Byte) (h : b ≠ a) :
    memGet (memInsert m a v) b = memGet m b := by
  induction m with
  | nil => simp [memInsert, memGet, h]
  | cons p m ih =>
    obtain ⟨k, w⟩ := p
    simp only [memInsert]
    split
    · simp [memGet, h]
    · simp [memGet, ih]

theorem not_mem_memErase (m : List Host.Cell) (a : Nat) (w : Byte) : (a, w) ∉ memErase m a := by
  induction m with
  | nil => simp [memErase]
  | cons p m ih =>
    obtain ⟨k, v⟩ := p
    simp only [memErase]
    split
    · exact ih
    · rename_i hk; simp [ih, hk]

/-- A read after a write to the same address gives the byte written. -/
@[simp] theorem memGet_memSet_same (m : List Host.Cell) (a : Nat) (v : Byte) : memGet (memSet m a v) a = v := by
  unfold memSet
  split
  · rw [memGet_memErase_same]; exact Eq.symm ‹_›
  · exact memGet_memInsert_same _ _ _ (not_mem_memErase m a)

/-- A write leaves every other address alone. -/
theorem memGet_memSet_other (m : List Host.Cell) {a b : Nat} (v : Byte) (h : b ≠ a) :
    memGet (memSet m a v) b = memGet m b := by
  unfold memSet
  split
  · exact memGet_memErase_other m h
  · rw [memGet_memInsert_other _ v h, memGet_memErase_other m h]

theorem memWfFrom_mono {m : List Host.Cell} {low low' : Nat} (hle : low' ≤ low) (h : memWfFrom low m = true) :
    memWfFrom low' m = true := by
  cases m with
  | nil => rfl
  | cons p m =>
    obtain ⟨k, v⟩ := p
    simp only [memWfFrom, Bool.and_eq_true, decide_eq_true_eq] at h ⊢
    exact ⟨⟨⟨by omega, h.1.1.2⟩, h.1.2⟩, h.2⟩

theorem memErase_wf {m : List Host.Cell} {low : Nat} (a : Nat) (h : memWfFrom low m = true) :
    memWfFrom low (memErase m a) = true := by
  induction m generalizing low with
  | nil => rfl
  | cons p m ih =>
    obtain ⟨k, v⟩ := p
    simp only [memWfFrom, Bool.and_eq_true, decide_eq_true_eq] at h
    simp only [memErase]
    split
    · exact memWfFrom_mono (by omega) (ih h.2)
    · simp only [memWfFrom, Bool.and_eq_true, decide_eq_true_eq]
      exact ⟨h.1, ih h.2⟩

theorem memInsert_wf {m : List Host.Cell} {low a : Nat} {v : Byte} (hlow : low ≤ a) (ha : a < 65536)
    (hv : v ≠ Config.unlistedByte) (hn : ∀ w, (a, w) ∉ m) (h : memWfFrom low m = true) :
    memWfFrom low (memInsert m a v) = true := by
  induction m generalizing low with
  | nil => simp [memInsert, memWfFrom, hlow, ha, hv]
  | cons p m ih =>
    obtain ⟨k, w⟩ := p
    have hk : a ≠ k := fun e => hn w (by simp [e])
    have hn' : ∀ w', (a, w') ∉ m := fun w' hw => hn w' (by simp [hw])
    simp only [memWfFrom, Bool.and_eq_true, decide_eq_true_eq] at h
    simp only [memInsert]
    split
    · simp only [memWfFrom, Bool.and_eq_true, decide_eq_true_eq]
      exact ⟨⟨⟨hlow, ha⟩, hv⟩, ⟨⟨by omega, h.1.1.2⟩, h.1.2⟩, h.2⟩
    · simp only [memWfFrom, Bool.and_eq_true, decide_eq_true_eq]
      exact ⟨h.1, ih (by omega) hn' h.2⟩

/-- A write keeps the canonical form. -/
theorem memSet_wf {m : List Host.Cell} {a : Nat} (v : Byte) (ha : a < 65536) (h : Memory.wf m = true) :
    Memory.wf (memSet m a v) = true := by
  unfold memSet
  split
  · exact memErase_wf a h
  · exact memInsert_wf (Nat.zero_le a) ha ‹_› (not_mem_memErase m a) (memErase_wf a h)

/-- The store of a completed bus write keeps the canonical form. -/
theorem State.store_wf (a : Word) (v : Byte) (s : State) (h : Memory.wf s.mem = true) :
    Memory.wf (s.store a v).mem = true := by
  unfold State.store
  split
  · exact memSet_wf v a.isLt h
  · exact h
  · exact h

theorem State.reset_memory_wf : Memory.wf State.reset.mem = true := rfl

end Sys2Proof.Machine
end

