-- ==== Sys2Proof/Laws/Words.lean ====
section
/-! SUPPORT. Bytes of words, and the flag byte. -/

namespace Sys2Proof

@[simp] theorem wordOfBytes_split (v : Word) : wordOfBytes (hiByte v) (loByte v) = v := by
  apply BitVec.eq_of_getLsbD_eq
  intro i hi
  simp only [wordOfBytes, hiByte, loByte, BitVec.getLsbD_append, BitVec.getLsbD_extractLsb']
  split
  · simp [*]
  · rw [decide_eq_true (by omega), Bool.true_and]
    congr 1
    omega

@[simp] theorem hiByte_join (hi lo : Byte) : hiByte (wordOfBytes hi lo) = hi := by
  apply BitVec.eq_of_getLsbD_eq
  intro i h
  simp only [hiByte, wordOfBytes, BitVec.getLsbD_extractLsb', BitVec.getLsbD_append]
  rw [if_neg (by omega), decide_eq_true h, Bool.true_and]
  congr 1
  omega

@[simp] theorem loByte_join (hi lo : Byte) : loByte (wordOfBytes hi lo) = lo := by
  apply BitVec.eq_of_getLsbD_eq
  intro i h
  simp only [loByte, wordOfBytes, BitVec.getLsbD_extractLsb', BitVec.getLsbD_append]
  rw [if_pos (by omega), decide_eq_true h, Bool.true_and, Nat.zero_add]

namespace Machine

/-- The flag byte has a zero low nibble (R32). -/
@[simp] theorem flagByte_low (z n h c : Bool) : flagByte z n h c &&& 15#8 = 0#8 := by
  cases z <;> cases n <;> cases h <;> cases c <;> rfl

@[simp] theorem flagByte_z (z n h c : Bool) : (flagByte z n h c).getLsbD 7 = z := by
  cases z <;> cases n <;> cases h <;> cases c <;> rfl

@[simp] theorem flagByte_n (z n h c : Bool) : (flagByte z n h c).getLsbD 6 = n := by
  cases z <;> cases n <;> cases h <;> cases c <;> rfl

@[simp] theorem flagByte_h (z n h c : Bool) : (flagByte z n h c).getLsbD 5 = h := by
  cases z <;> cases n <;> cases h <;> cases c <;> rfl

@[simp] theorem flagByte_c (z n h c : Bool) : (flagByte z n h c).getLsbD 4 = c := by
  cases z <;> cases n <;> cases h <;> cases c <;> rfl

@[simp] theorem State.setFlags_flagZ (z n h c : Bool) (s : State) : (s.setFlags z n h c).flagZ = z :=
  flagByte_z z n h c

@[simp] theorem State.setFlags_flagN (z n h c : Bool) (s : State) : (s.setFlags z n h c).flagN = n :=
  flagByte_n z n h c

@[simp] theorem State.setFlags_flagH (z n h c : Bool) (s : State) : (s.setFlags z n h c).flagH = h :=
  flagByte_h z n h c

@[simp] theorem State.setFlags_flagC (z n h c : Bool) (s : State) : (s.setFlags z n h c).flagC = c :=
  flagByte_c z n h c

/-- What a write to F stores has a zero low nibble (R32). -/
@[simp] theorem mask_low (v : Byte) : v &&& 240#8 &&& 15#8 = 0#8 := by
  rw [BitVec.and_assoc]
  simp

end Machine

end Sys2Proof
end

