-- ==== Sys2Proof/Laws/State.lean ====
section
/-! SUPPORT. One lemma per field per update of State, and the reads of registers, flags, memory and the bus map after
each update, so that no proof unfolds a record update. -/

namespace Sys2Proof.Machine

/-! ### advance -/

@[simp] theorem State.advance_a (n : Nat) (s : State) : (s.advance n).a = s.a := rfl
@[simp] theorem State.advance_f (n : Nat) (s : State) : (s.advance n).f = s.f := rfl
@[simp] theorem State.advance_b (n : Nat) (s : State) : (s.advance n).b = s.b := rfl
@[simp] theorem State.advance_c (n : Nat) (s : State) : (s.advance n).c = s.c := rfl
@[simp] theorem State.advance_d (n : Nat) (s : State) : (s.advance n).d = s.d := rfl
@[simp] theorem State.advance_e (n : Nat) (s : State) : (s.advance n).e = s.e := rfl
@[simp] theorem State.advance_h (n : Nat) (s : State) : (s.advance n).h = s.h := rfl
@[simp] theorem State.advance_l (n : Nat) (s : State) : (s.advance n).l = s.l := rfl
@[simp] theorem State.advance_sp (n : Nat) (s : State) : (s.advance n).sp = s.sp := rfl
@[simp] theorem State.advance_pc (n : Nat) (s : State) : (s.advance n).pc = s.pc + BitVec.ofNat 16 n := rfl
@[simp] theorem State.advance_ime (n : Nat) (s : State) : (s.advance n).ime = s.ime := rfl
@[simp] theorem State.advance_imePending (n : Nat) (s : State) : (s.advance n).imePending = s.imePending := rfl
@[simp] theorem State.advance_run (n : Nat) (s : State) : (s.advance n).run = s.run := rfl
@[simp] theorem State.advance_cycles (n : Nat) (s : State) : (s.advance n).cycles = s.cycles := rfl
@[simp] theorem State.advance_fault (n : Nat) (s : State) : (s.advance n).fault = s.fault := rfl
@[simp] theorem State.advance_mem (n : Nat) (s : State) : (s.advance n).mem = s.mem := rfl
@[simp] theorem State.advance_busMap (n : Nat) (s : State) : (s.advance n).busMap = s.busMap := rfl
@[simp] theorem State.advance_deviceAccesses (n : Nat) (s : State) : (s.advance n).deviceAccesses = s.deviceAccesses := rfl
@[simp] theorem State.advance_host (n : Nat) (s : State) : (s.advance n).host = s.host := rfl
@[simp] theorem State.advance_trace (n : Nat) (s : State) : (s.advance n).trace = s.trace := rfl
@[simp] theorem State.advance_reg8 (n : Nat) (s : State) (q : Reg8) : (s.advance n).reg8 q = s.reg8 q := by
  cases q <;> rfl
@[simp] theorem State.advance_pair (n : Nat) (s : State) (q : Pair) : (s.advance n).pair q = s.pair q := by
  cases q <;> rfl
@[simp] theorem State.advance_stackPair (n : Nat) (s : State) (q : StackPair) : (s.advance n).stackPair q = s.stackPair q := by
  cases q <;> rfl
@[simp] theorem State.advance_hl (n : Nat) (s : State) : (s.advance n).hl = s.hl := rfl
@[simp] theorem State.advance_flagZ (n : Nat) (s : State) : (s.advance n).flagZ = s.flagZ := rfl
@[simp] theorem State.advance_flagN (n : Nat) (s : State) : (s.advance n).flagN = s.flagN := rfl
@[simp] theorem State.advance_flagH (n : Nat) (s : State) : (s.advance n).flagH = s.flagH := rfl
@[simp] theorem State.advance_flagC (n : Nat) (s : State) : (s.advance n).flagC = s.flagC := rfl
@[simp] theorem State.advance_cond (n : Nat) (s : State) (q : Cond) : (s.advance n).cond q = s.cond q := by
  cases q <;> rfl
@[simp] theorem State.advance_region (n : Nat) (s : State) (q : Word) : (s.advance n).region q = s.region q := rfl
@[simp] theorem State.advance_byteAt (n : Nat) (s : State) (q : Word) : (s.advance n).byteAt q = s.byteAt q := rfl
@[simp] theorem State.advance_readAnswer (n : Nat) (s : State) (q : Word) : (s.advance n).readAnswer q = s.readAnswer q := rfl
@[simp] theorem State.advance_writeAccepted (n : Nat) (s : State) (q : Word) : (s.advance n).writeAccepted q = s.writeAccepted q := rfl

/-! ### setPc -/

@[simp] theorem State.setPc_a (v : Word) (s : State) : (s.setPc v).a = s.a := rfl
@[simp] theorem State.setPc_f (v : Word) (s : State) : (s.setPc v).f = s.f := rfl
@[simp] theorem State.setPc_b (v : Word) (s : State) : (s.setPc v).b = s.b := rfl
@[simp] theorem State.setPc_c (v : Word) (s : State) : (s.setPc v).c = s.c := rfl
@[simp] theorem State.setPc_d (v : Word) (s : State) : (s.setPc v).d = s.d := rfl
@[simp] theorem State.setPc_e (v : Word) (s : State) : (s.setPc v).e = s.e := rfl
@[simp] theorem State.setPc_h (v : Word) (s : State) : (s.setPc v).h = s.h := rfl
@[simp] theorem State.setPc_l (v : Word) (s : State) : (s.setPc v).l = s.l := rfl
@[simp] theorem State.setPc_sp (v : Word) (s : State) : (s.setPc v).sp = s.sp := rfl
@[simp] theorem State.setPc_pc (v : Word) (s : State) : (s.setPc v).pc = v := rfl
@[simp] theorem State.setPc_ime (v : Word) (s : State) : (s.setPc v).ime = s.ime := rfl
@[simp] theorem State.setPc_imePending (v : Word) (s : State) : (s.setPc v).imePending = s.imePending := rfl
@[simp] theorem State.setPc_run (v : Word) (s : State) : (s.setPc v).run = s.run := rfl
@[simp] theorem State.setPc_cycles (v : Word) (s : State) : (s.setPc v).cycles = s.cycles := rfl
@[simp] theorem State.setPc_fault (v : Word) (s : State) : (s.setPc v).fault = s.fault := rfl
@[simp] theorem State.setPc_mem (v : Word) (s : State) : (s.setPc v).mem = s.mem := rfl
@[simp] theorem State.setPc_busMap (v : Word) (s : State) : (s.setPc v).busMap = s.busMap := rfl
@[simp] theorem State.setPc_deviceAccesses (v : Word) (s : State) : (s.setPc v).deviceAccesses = s.deviceAccesses := rfl
@[simp] theorem State.setPc_host (v : Word) (s : State) : (s.setPc v).host = s.host := rfl
@[simp] theorem State.setPc_trace (v : Word) (s : State) : (s.setPc v).trace = s.trace := rfl
@[simp] theorem State.setPc_reg8 (v : Word) (s : State) (q : Reg8) : (s.setPc v).reg8 q = s.reg8 q := by
  cases q <;> rfl
@[simp] theorem State.setPc_pair (v : Word) (s : State) (q : Pair) : (s.setPc v).pair q = s.pair q := by
  cases q <;> rfl
@[simp] theorem State.setPc_stackPair (v : Word) (s : State) (q : StackPair) : (s.setPc v).stackPair q = s.stackPair q := by
  cases q <;> rfl
@[simp] theorem State.setPc_hl (v : Word) (s : State) : (s.setPc v).hl = s.hl := rfl
@[simp] theorem State.setPc_flagZ (v : Word) (s : State) : (s.setPc v).flagZ = s.flagZ := rfl
@[simp] theorem State.setPc_flagN (v : Word) (s : State) : (s.setPc v).flagN = s.flagN := rfl
@[simp] theorem State.setPc_flagH (v : Word) (s : State) : (s.setPc v).flagH = s.flagH := rfl
@[simp] theorem State.setPc_flagC (v : Word) (s : State) : (s.setPc v).flagC = s.flagC := rfl
@[simp] theorem State.setPc_cond (v : Word) (s : State) (q : Cond) : (s.setPc v).cond q = s.cond q := by
  cases q <;> rfl
@[simp] theorem State.setPc_region (v : Word) (s : State) (q : Word) : (s.setPc v).region q = s.region q := rfl
@[simp] theorem State.setPc_byteAt (v : Word) (s : State) (q : Word) : (s.setPc v).byteAt q = s.byteAt q := rfl
@[simp] theorem State.setPc_readAnswer (v : Word) (s : State) (q : Word) : (s.setPc v).readAnswer q = s.readAnswer q := rfl
@[simp] theorem State.setPc_writeAccepted (v : Word) (s : State) (q : Word) : (s.setPc v).writeAccepted q = s.writeAccepted q := rfl

/-! ### setSp -/

@[simp] theorem State.setSp_a (v : Word) (s : State) : (s.setSp v).a = s.a := rfl
@[simp] theorem State.setSp_f (v : Word) (s : State) : (s.setSp v).f = s.f := rfl
@[simp] theorem State.setSp_b (v : Word) (s : State) : (s.setSp v).b = s.b := rfl
@[simp] theorem State.setSp_c (v : Word) (s : State) : (s.setSp v).c = s.c := rfl
@[simp] theorem State.setSp_d (v : Word) (s : State) : (s.setSp v).d = s.d := rfl
@[simp] theorem State.setSp_e (v : Word) (s : State) : (s.setSp v).e = s.e := rfl
@[simp] theorem State.setSp_h (v : Word) (s : State) : (s.setSp v).h = s.h := rfl
@[simp] theorem State.setSp_l (v : Word) (s : State) : (s.setSp v).l = s.l := rfl
@[simp] theorem State.setSp_sp (v : Word) (s : State) : (s.setSp v).sp = v := rfl
@[simp] theorem State.setSp_pc (v : Word) (s : State) : (s.setSp v).pc = s.pc := rfl
@[simp] theorem State.setSp_ime (v : Word) (s : State) : (s.setSp v).ime = s.ime := rfl
@[simp] theorem State.setSp_imePending (v : Word) (s : State) : (s.setSp v).imePending = s.imePending := rfl
@[simp] theorem State.setSp_run (v : Word) (s : State) : (s.setSp v).run = s.run := rfl
@[simp] theorem State.setSp_cycles (v : Word) (s : State) : (s.setSp v).cycles = s.cycles := rfl
@[simp] theorem State.setSp_fault (v : Word) (s : State) : (s.setSp v).fault = s.fault := rfl
@[simp] theorem State.setSp_mem (v : Word) (s : State) : (s.setSp v).mem = s.mem := rfl
@[simp] theorem State.setSp_busMap (v : Word) (s : State) : (s.setSp v).busMap = s.busMap := rfl
@[simp] theorem State.setSp_deviceAccesses (v : Word) (s : State) : (s.setSp v).deviceAccesses = s.deviceAccesses := rfl
@[simp] theorem State.setSp_host (v : Word) (s : State) : (s.setSp v).host = s.host := rfl
@[simp] theorem State.setSp_trace (v : Word) (s : State) : (s.setSp v).trace = s.trace := rfl
@[simp] theorem State.setSp_reg8 (v : Word) (s : State) (q : Reg8) : (s.setSp v).reg8 q = s.reg8 q := by
  cases q <;> rfl
@[simp] theorem State.setSp_stackPair (v : Word) (s : State) (q : StackPair) : (s.setSp v).stackPair q = s.stackPair q := by
  cases q <;> rfl
@[simp] theorem State.setSp_hl (v : Word) (s : State) : (s.setSp v).hl = s.hl := rfl
@[simp] theorem State.setSp_flagZ (v : Word) (s : State) : (s.setSp v).flagZ = s.flagZ := rfl
@[simp] theorem State.setSp_flagN (v : Word) (s : State) : (s.setSp v).flagN = s.flagN := rfl
@[simp] theorem State.setSp_flagH (v : Word) (s : State) : (s.setSp v).flagH = s.flagH := rfl
@[simp] theorem State.setSp_flagC (v : Word) (s : State) : (s.setSp v).flagC = s.flagC := rfl
@[simp] theorem State.setSp_cond (v : Word) (s : State) (q : Cond) : (s.setSp v).cond q = s.cond q := by
  cases q <;> rfl
@[simp] theorem State.setSp_region (v : Word) (s : State) (q : Word) : (s.setSp v).region q = s.region q := rfl
@[simp] theorem State.setSp_byteAt (v : Word) (s : State) (q : Word) : (s.setSp v).byteAt q = s.byteAt q := rfl
@[simp] theorem State.setSp_readAnswer (v : Word) (s : State) (q : Word) : (s.setSp v).readAnswer q = s.readAnswer q := rfl
@[simp] theorem State.setSp_writeAccepted (v : Word) (s : State) (q : Word) : (s.setSp v).writeAccepted q = s.writeAccepted q := rfl

/-! ### setF -/

@[simp] theorem State.setF_a (v : Byte) (s : State) : (s.setF v).a = s.a := rfl
@[simp] theorem State.setF_f (v : Byte) (s : State) : (s.setF v).f = v &&& 0xF0 := rfl
@[simp] theorem State.setF_b (v : Byte) (s : State) : (s.setF v).b = s.b := rfl
@[simp] theorem State.setF_c (v : Byte) (s : State) : (s.setF v).c = s.c := rfl
@[simp] theorem State.setF_d (v : Byte) (s : State) : (s.setF v).d = s.d := rfl
@[simp] theorem State.setF_e (v : Byte) (s : State) : (s.setF v).e = s.e := rfl
@[simp] theorem State.setF_h (v : Byte) (s : State) : (s.setF v).h = s.h := rfl
@[simp] theorem State.setF_l (v : Byte) (s : State) : (s.setF v).l = s.l := rfl
@[simp] theorem State.setF_sp (v : Byte) (s : State) : (s.setF v).sp = s.sp := rfl
@[simp] theorem State.setF_pc (v : Byte) (s : State) : (s.setF v).pc = s.pc := rfl
@[simp] theorem State.setF_ime (v : Byte) (s : State) : (s.setF v).ime = s.ime := rfl
@[simp] theorem State.setF_imePending (v : Byte) (s : State) : (s.setF v).imePending = s.imePending := rfl
@[simp] theorem State.setF_run (v : Byte) (s : State) : (s.setF v).run = s.run := rfl
@[simp] theorem State.setF_cycles (v : Byte) (s : State) : (s.setF v).cycles = s.cycles := rfl
@[simp] theorem State.setF_fault (v : Byte) (s : State) : (s.setF v).fault = s.fault := rfl
@[simp] theorem State.setF_mem (v : Byte) (s : State) : (s.setF v).mem = s.mem := rfl
@[simp] theorem State.setF_busMap (v : Byte) (s : State) : (s.setF v).busMap = s.busMap := rfl
@[simp] theorem State.setF_deviceAccesses (v : Byte) (s : State) : (s.setF v).deviceAccesses = s.deviceAccesses := rfl
@[simp] theorem State.setF_host (v : Byte) (s : State) : (s.setF v).host = s.host := rfl
@[simp] theorem State.setF_trace (v : Byte) (s : State) : (s.setF v).trace = s.trace := rfl
@[simp] theorem State.setF_reg8 (v : Byte) (s : State) (q : Reg8) : (s.setF v).reg8 q = s.reg8 q := by
  cases q <;> rfl
@[simp] theorem State.setF_pair (v : Byte) (s : State) (q : Pair) : (s.setF v).pair q = s.pair q := by
  cases q <;> rfl
@[simp] theorem State.setF_hl (v : Byte) (s : State) : (s.setF v).hl = s.hl := rfl
@[simp] theorem State.setF_region (v : Byte) (s : State) (q : Word) : (s.setF v).region q = s.region q := rfl
@[simp] theorem State.setF_byteAt (v : Byte) (s : State) (q : Word) : (s.setF v).byteAt q = s.byteAt q := rfl
@[simp] theorem State.setF_readAnswer (v : Byte) (s : State) (q : Word) : (s.setF v).readAnswer q = s.readAnswer q := rfl
@[simp] theorem State.setF_writeAccepted (v : Byte) (s : State) (q : Word) : (s.setF v).writeAccepted q = s.writeAccepted q := rfl

/-! ### setIme -/

@[simp] theorem State.setIme_a (x y : Bool) (s : State) : (s.setIme x y).a = s.a := rfl
@[simp] theorem State.setIme_f (x y : Bool) (s : State) : (s.setIme x y).f = s.f := rfl
@[simp] theorem State.setIme_b (x y : Bool) (s : State) : (s.setIme x y).b = s.b := rfl
@[simp] theorem State.setIme_c (x y : Bool) (s : State) : (s.setIme x y).c = s.c := rfl
@[simp] theorem State.setIme_d (x y : Bool) (s : State) : (s.setIme x y).d = s.d := rfl
@[simp] theorem State.setIme_e (x y : Bool) (s : State) : (s.setIme x y).e = s.e := rfl
@[simp] theorem State.setIme_h (x y : Bool) (s : State) : (s.setIme x y).h = s.h := rfl
@[simp] theorem State.setIme_l (x y : Bool) (s : State) : (s.setIme x y).l = s.l := rfl
@[simp] theorem State.setIme_sp (x y : Bool) (s : State) : (s.setIme x y).sp = s.sp := rfl
@[simp] theorem State.setIme_pc (x y : Bool) (s : State) : (s.setIme x y).pc = s.pc := rfl
@[simp] theorem State.setIme_ime (x y : Bool) (s : State) : (s.setIme x y).ime = x := rfl
@[simp] theorem State.setIme_imePending (x y : Bool) (s : State) : (s.setIme x y).imePending = y := rfl
@[simp] theorem State.setIme_run (x y : Bool) (s : State) : (s.setIme x y).run = s.run := rfl
@[simp] theorem State.setIme_cycles (x y : Bool) (s : State) : (s.setIme x y).cycles = s.cycles := rfl
@[simp] theorem State.setIme_fault (x y : Bool) (s : State) : (s.setIme x y).fault = s.fault := rfl
@[simp] theorem State.setIme_mem (x y : Bool) (s : State) : (s.setIme x y).mem = s.mem := rfl
@[simp] theorem State.setIme_busMap (x y : Bool) (s : State) : (s.setIme x y).busMap = s.busMap := rfl
@[simp] theorem State.setIme_deviceAccesses (x y : Bool) (s : State) : (s.setIme x y).deviceAccesses = s.deviceAccesses := rfl
@[simp] theorem State.setIme_host (x y : Bool) (s : State) : (s.setIme x y).host = s.host := rfl
@[simp] theorem State.setIme_trace (x y : Bool) (s : State) : (s.setIme x y).trace = s.trace := rfl
@[simp] theorem State.setIme_reg8 (x y : Bool) (s : State) (q : Reg8) : (s.setIme x y).reg8 q = s.reg8 q := by
  cases q <;> rfl
@[simp] theorem State.setIme_pair (x y : Bool) (s : State) (q : Pair) : (s.setIme x y).pair q = s.pair q := by
  cases q <;> rfl
@[simp] theorem State.setIme_stackPair (x y : Bool) (s : State) (q : StackPair) : (s.setIme x y).stackPair q = s.stackPair q := by
  cases q <;> rfl
@[simp] theorem State.setIme_hl (x y : Bool) (s : State) : (s.setIme x y).hl = s.hl := rfl
@[simp] theorem State.setIme_flagZ (x y : Bool) (s : State) : (s.setIme x y).flagZ = s.flagZ := rfl
@[simp] theorem State.setIme_flagN (x y : Bool) (s : State) : (s.setIme x y).flagN = s.flagN := rfl
@[simp] theorem State.setIme_flagH (x y : Bool) (s : State) : (s.setIme x y).flagH = s.flagH := rfl
@[simp] theorem State.setIme_flagC (x y : Bool) (s : State) : (s.setIme x y).flagC = s.flagC := rfl
@[simp] theorem State.setIme_cond (x y : Bool) (s : State) (q : Cond) : (s.setIme x y).cond q = s.cond q := by
  cases q <;> rfl
@[simp] theorem State.setIme_region (x y : Bool) (s : State) (q : Word) : (s.setIme x y).region q = s.region q := rfl
@[simp] theorem State.setIme_byteAt (x y : Bool) (s : State) (q : Word) : (s.setIme x y).byteAt q = s.byteAt q := rfl
@[simp] theorem State.setIme_readAnswer (x y : Bool) (s : State) (q : Word) : (s.setIme x y).readAnswer q = s.readAnswer q := rfl
@[simp] theorem State.setIme_writeAccepted (x y : Bool) (s : State) (q : Word) : (s.setIme x y).writeAccepted q = s.writeAccepted q := rfl

/-! ### setRun -/

@[simp] theorem State.setRun_a (r : RunState) (s : State) : (s.setRun r).a = s.a := rfl
@[simp] theorem State.setRun_f (r : RunState) (s : State) : (s.setRun r).f = s.f := rfl
@[simp] theorem State.setRun_b (r : RunState) (s : State) : (s.setRun r).b = s.b := rfl
@[simp] theorem State.setRun_c (r : RunState) (s : State) : (s.setRun r).c = s.c := rfl
@[simp] theorem State.setRun_d (r : RunState) (s : State) : (s.setRun r).d = s.d := rfl
@[simp] theorem State.setRun_e (r : RunState) (s : State) : (s.setRun r).e = s.e := rfl
@[simp] theorem State.setRun_h (r : RunState) (s : State) : (s.setRun r).h = s.h := rfl
@[simp] theorem State.setRun_l (r : RunState) (s : State) : (s.setRun r).l = s.l := rfl
@[simp] theorem State.setRun_sp (r : RunState) (s : State) : (s.setRun r).sp = s.sp := rfl
@[simp] theorem State.setRun_pc (r : RunState) (s : State) : (s.setRun r).pc = s.pc := rfl
@[simp] theorem State.setRun_ime (r : RunState) (s : State) : (s.setRun r).ime = s.ime := rfl
@[simp] theorem State.setRun_imePending (r : RunState) (s : State) : (s.setRun r).imePending = s.imePending := rfl
@[simp] theorem State.setRun_run (r : RunState) (s : State) : (s.setRun r).run = r := rfl
@[simp] theorem State.setRun_cycles (r : RunState) (s : State) : (s.setRun r).cycles = s.cycles := rfl
@[simp] theorem State.setRun_fault (r : RunState) (s : State) : (s.setRun r).fault = s.fault := rfl
@[simp] theorem State.setRun_mem (r : RunState) (s : State) : (s.setRun r).mem = s.mem := rfl
@[simp] theorem State.setRun_busMap (r : RunState) (s : State) : (s.setRun r).busMap = s.busMap := rfl
@[simp] theorem State.setRun_deviceAccesses (r : RunState) (s : State) : (s.setRun r).deviceAccesses = s.deviceAccesses := rfl
@[simp] theorem State.setRun_host (r : RunState) (s : State) : (s.setRun r).host = s.host := rfl
@[simp] theorem State.setRun_trace (r : RunState) (s : State) : (s.setRun r).trace = s.trace := rfl
@[simp] theorem State.setRun_reg8 (r : RunState) (s : State) (q : Reg8) : (s.setRun r).reg8 q = s.reg8 q := by
  cases q <;> rfl
@[simp] theorem State.setRun_pair (r : RunState) (s : State) (q : Pair) : (s.setRun r).pair q = s.pair q := by
  cases q <;> rfl
@[simp] theorem State.setRun_stackPair (r : RunState) (s : State) (q : StackPair) : (s.setRun r).stackPair q = s.stackPair q := by
  cases q <;> rfl
@[simp] theorem State.setRun_hl (r : RunState) (s : State) : (s.setRun r).hl = s.hl := rfl
@[simp] theorem State.setRun_flagZ (r : RunState) (s : State) : (s.setRun r).flagZ = s.flagZ := rfl
@[simp] theorem State.setRun_flagN (r : RunState) (s : State) : (s.setRun r).flagN = s.flagN := rfl
@[simp] theorem State.setRun_flagH (r : RunState) (s : State) : (s.setRun r).flagH = s.flagH := rfl
@[simp] theorem State.setRun_flagC (r : RunState) (s : State) : (s.setRun r).flagC = s.flagC := rfl
@[simp] theorem State.setRun_cond (r : RunState) (s : State) (q : Cond) : (s.setRun r).cond q = s.cond q := by
  cases q <;> rfl
@[simp] theorem State.setRun_region (r : RunState) (s : State) (q : Word) : (s.setRun r).region q = s.region q := rfl
@[simp] theorem State.setRun_byteAt (r : RunState) (s : State) (q : Word) : (s.setRun r).byteAt q = s.byteAt q := rfl
@[simp] theorem State.setRun_readAnswer (r : RunState) (s : State) (q : Word) : (s.setRun r).readAnswer q = s.readAnswer q := rfl
@[simp] theorem State.setRun_writeAccepted (r : RunState) (s : State) (q : Word) : (s.setRun r).writeAccepted q = s.writeAccepted q := rfl

/-! ### emit -/

@[simp] theorem State.emit_a (x : Event) (s : State) : (s.emit x).a = s.a := rfl
@[simp] theorem State.emit_f (x : Event) (s : State) : (s.emit x).f = s.f := rfl
@[simp] theorem State.emit_b (x : Event) (s : State) : (s.emit x).b = s.b := rfl
@[simp] theorem State.emit_c (x : Event) (s : State) : (s.emit x).c = s.c := rfl
@[simp] theorem State.emit_d (x : Event) (s : State) : (s.emit x).d = s.d := rfl
@[simp] theorem State.emit_e (x : Event) (s : State) : (s.emit x).e = s.e := rfl
@[simp] theorem State.emit_h (x : Event) (s : State) : (s.emit x).h = s.h := rfl
@[simp] theorem State.emit_l (x : Event) (s : State) : (s.emit x).l = s.l := rfl
@[simp] theorem State.emit_sp (x : Event) (s : State) : (s.emit x).sp = s.sp := rfl
@[simp] theorem State.emit_pc (x : Event) (s : State) : (s.emit x).pc = s.pc := rfl
@[simp] theorem State.emit_ime (x : Event) (s : State) : (s.emit x).ime = s.ime := rfl
@[simp] theorem State.emit_imePending (x : Event) (s : State) : (s.emit x).imePending = s.imePending := rfl
@[simp] theorem State.emit_run (x : Event) (s : State) : (s.emit x).run = s.run := rfl
@[simp] theorem State.emit_cycles (x : Event) (s : State) : (s.emit x).cycles = s.cycles := rfl
@[simp] theorem State.emit_fault (x : Event) (s : State) : (s.emit x).fault = s.fault := rfl
@[simp] theorem State.emit_mem (x : Event) (s : State) : (s.emit x).mem = s.mem := rfl
@[simp] theorem State.emit_busMap (x : Event) (s : State) : (s.emit x).busMap = s.busMap := rfl
@[simp] theorem State.emit_deviceAccesses (x : Event) (s : State) : (s.emit x).deviceAccesses = s.deviceAccesses := rfl
@[simp] theorem State.emit_host (x : Event) (s : State) : (s.emit x).host = s.host := rfl
@[simp] theorem State.emit_trace (x : Event) (s : State) : (s.emit x).trace = x :: s.trace := rfl
@[simp] theorem State.emit_reg8 (x : Event) (s : State) (q : Reg8) : (s.emit x).reg8 q = s.reg8 q := by
  cases q <;> rfl
@[simp] theorem State.emit_pair (x : Event) (s : State) (q : Pair) : (s.emit x).pair q = s.pair q := by
  cases q <;> rfl
@[simp] theorem State.emit_stackPair (x : Event) (s : State) (q : StackPair) : (s.emit x).stackPair q = s.stackPair q := by
  cases q <;> rfl
@[simp] theorem State.emit_hl (x : Event) (s : State) : (s.emit x).hl = s.hl := rfl
@[simp] theorem State.emit_flagZ (x : Event) (s : State) : (s.emit x).flagZ = s.flagZ := rfl
@[simp] theorem State.emit_flagN (x : Event) (s : State) : (s.emit x).flagN = s.flagN := rfl
@[simp] theorem State.emit_flagH (x : Event) (s : State) : (s.emit x).flagH = s.flagH := rfl
@[simp] theorem State.emit_flagC (x : Event) (s : State) : (s.emit x).flagC = s.flagC := rfl
@[simp] theorem State.emit_cond (x : Event) (s : State) (q : Cond) : (s.emit x).cond q = s.cond q := by
  cases q <;> rfl
@[simp] theorem State.emit_region (x : Event) (s : State) (q : Word) : (s.emit x).region q = s.region q := rfl
@[simp] theorem State.emit_byteAt (x : Event) (s : State) (q : Word) : (s.emit x).byteAt q = s.byteAt q := rfl
@[simp] theorem State.emit_readAnswer (x : Event) (s : State) (q : Word) : (s.emit x).readAnswer q = s.readAnswer q := rfl
@[simp] theorem State.emit_writeAccepted (x : Event) (s : State) (q : Word) : (s.emit x).writeAccepted q = s.writeAccepted q := rfl

/-! ### report -/

@[simp] theorem State.report_a (n : Nat) (s : State) : (s.report n).a = s.a := rfl
@[simp] theorem State.report_f (n : Nat) (s : State) : (s.report n).f = s.f := rfl
@[simp] theorem State.report_b (n : Nat) (s : State) : (s.report n).b = s.b := rfl
@[simp] theorem State.report_c (n : Nat) (s : State) : (s.report n).c = s.c := rfl
@[simp] theorem State.report_d (n : Nat) (s : State) : (s.report n).d = s.d := rfl
@[simp] theorem State.report_e (n : Nat) (s : State) : (s.report n).e = s.e := rfl
@[simp] theorem State.report_h (n : Nat) (s : State) : (s.report n).h = s.h := rfl
@[simp] theorem State.report_l (n : Nat) (s : State) : (s.report n).l = s.l := rfl
@[simp] theorem State.report_sp (n : Nat) (s : State) : (s.report n).sp = s.sp := rfl
@[simp] theorem State.report_pc (n : Nat) (s : State) : (s.report n).pc = s.pc := rfl
@[simp] theorem State.report_ime (n : Nat) (s : State) : (s.report n).ime = s.ime := rfl
@[simp] theorem State.report_imePending (n : Nat) (s : State) : (s.report n).imePending = s.imePending := rfl
@[simp] theorem State.report_run (n : Nat) (s : State) : (s.report n).run = s.run := rfl
@[simp] theorem State.report_cycles (n : Nat) (s : State) : (s.report n).cycles = s.cycles + n := rfl
@[simp] theorem State.report_fault (n : Nat) (s : State) : (s.report n).fault = s.fault := rfl
@[simp] theorem State.report_mem (n : Nat) (s : State) : (s.report n).mem = s.mem := rfl
@[simp] theorem State.report_busMap (n : Nat) (s : State) : (s.report n).busMap = s.busMap := rfl
@[simp] theorem State.report_deviceAccesses (n : Nat) (s : State) : (s.report n).deviceAccesses = s.deviceAccesses := rfl
@[simp] theorem State.report_host (n : Nat) (s : State) : (s.report n).host = s.host := rfl
@[simp] theorem State.report_trace (n : Nat) (s : State) : (s.report n).trace = .report n :: s.trace := rfl
@[simp] theorem State.report_reg8 (n : Nat) (s : State) (q : Reg8) : (s.report n).reg8 q = s.reg8 q := by
  cases q <;> rfl
@[simp] theorem State.report_pair (n : Nat) (s : State) (q : Pair) : (s.report n).pair q = s.pair q := by
  cases q <;> rfl
@[simp] theorem State.report_stackPair (n : Nat) (s : State) (q : StackPair) : (s.report n).stackPair q = s.stackPair q := by
  cases q <;> rfl
@[simp] theorem State.report_hl (n : Nat) (s : State) : (s.report n).hl = s.hl := rfl
@[simp] theorem State.report_flagZ (n : Nat) (s : State) : (s.report n).flagZ = s.flagZ := rfl
@[simp] theorem State.report_flagN (n : Nat) (s : State) : (s.report n).flagN = s.flagN := rfl
@[simp] theorem State.report_flagH (n : Nat) (s : State) : (s.report n).flagH = s.flagH := rfl
@[simp] theorem State.report_flagC (n : Nat) (s : State) : (s.report n).flagC = s.flagC := rfl
@[simp] theorem State.report_cond (n : Nat) (s : State) (q : Cond) : (s.report n).cond q = s.cond q := by
  cases q <;> rfl
@[simp] theorem State.report_region (n : Nat) (s : State) (q : Word) : (s.report n).region q = s.region q := rfl
@[simp] theorem State.report_byteAt (n : Nat) (s : State) (q : Word) : (s.report n).byteAt q = s.byteAt q := rfl
@[simp] theorem State.report_readAnswer (n : Nat) (s : State) (q : Word) : (s.report n).readAnswer q = s.readAnswer q := rfl
@[simp] theorem State.report_writeAccepted (n : Nat) (s : State) (q : Word) : (s.report n).writeAccepted q = s.writeAccepted q := rfl

/-! ### raise -/

@[simp] theorem State.raise_a (k : AccessKind) (x : Word) (s : State) : (s.raise k x).a = s.a := rfl
@[simp] theorem State.raise_f (k : AccessKind) (x : Word) (s : State) : (s.raise k x).f = s.f := rfl
@[simp] theorem State.raise_b (k : AccessKind) (x : Word) (s : State) : (s.raise k x).b = s.b := rfl
@[simp] theorem State.raise_c (k : AccessKind) (x : Word) (s : State) : (s.raise k x).c = s.c := rfl
@[simp] theorem State.raise_d (k : AccessKind) (x : Word) (s : State) : (s.raise k x).d = s.d := rfl
@[simp] theorem State.raise_e (k : AccessKind) (x : Word) (s : State) : (s.raise k x).e = s.e := rfl
@[simp] theorem State.raise_h (k : AccessKind) (x : Word) (s : State) : (s.raise k x).h = s.h := rfl
@[simp] theorem State.raise_l (k : AccessKind) (x : Word) (s : State) : (s.raise k x).l = s.l := rfl
@[simp] theorem State.raise_sp (k : AccessKind) (x : Word) (s : State) : (s.raise k x).sp = s.sp := rfl
@[simp] theorem State.raise_pc (k : AccessKind) (x : Word) (s : State) : (s.raise k x).pc = s.pc := rfl
@[simp] theorem State.raise_ime (k : AccessKind) (x : Word) (s : State) : (s.raise k x).ime = s.ime := rfl
@[simp] theorem State.raise_imePending (k : AccessKind) (x : Word) (s : State) : (s.raise k x).imePending = s.imePending := rfl
@[simp] theorem State.raise_run (k : AccessKind) (x : Word) (s : State) : (s.raise k x).run = s.run := rfl
@[simp] theorem State.raise_cycles (k : AccessKind) (x : Word) (s : State) : (s.raise k x).cycles = s.cycles := rfl
@[simp] theorem State.raise_fault (k : AccessKind) (x : Word) (s : State) : (s.raise k x).fault = some ⟨k, x⟩ := rfl
@[simp] theorem State.raise_mem (k : AccessKind) (x : Word) (s : State) : (s.raise k x).mem = s.mem := rfl
@[simp] theorem State.raise_busMap (k : AccessKind) (x : Word) (s : State) : (s.raise k x).busMap = s.busMap := rfl
@[simp] theorem State.raise_deviceAccesses (k : AccessKind) (x : Word) (s : State) : (s.raise k x).deviceAccesses = s.deviceAccesses := rfl
@[simp] theorem State.raise_host (k : AccessKind) (x : Word) (s : State) : (s.raise k x).host = s.host := rfl
@[simp] theorem State.raise_trace (k : AccessKind) (x : Word) (s : State) : (s.raise k x).trace = s.trace := rfl
@[simp] theorem State.raise_reg8 (k : AccessKind) (x : Word) (s : State) (q : Reg8) : (s.raise k x).reg8 q = s.reg8 q := by
  cases q <;> rfl
@[simp] theorem State.raise_pair (k : AccessKind) (x : Word) (s : State) (q : Pair) : (s.raise k x).pair q = s.pair q := by
  cases q <;> rfl
@[simp] theorem State.raise_stackPair (k : AccessKind) (x : Word) (s : State) (q : StackPair) : (s.raise k x).stackPair q = s.stackPair q := by
  cases q <;> rfl
@[simp] theorem State.raise_hl (k : AccessKind) (x : Word) (s : State) : (s.raise k x).hl = s.hl := rfl
@[simp] theorem State.raise_flagZ (k : AccessKind) (x : Word) (s : State) : (s.raise k x).flagZ = s.flagZ := rfl
@[simp] theorem State.raise_flagN (k : AccessKind) (x : Word) (s : State) : (s.raise k x).flagN = s.flagN := rfl
@[simp] theorem State.raise_flagH (k : AccessKind) (x : Word) (s : State) : (s.raise k x).flagH = s.flagH := rfl
@[simp] theorem State.raise_flagC (k : AccessKind) (x : Word) (s : State) : (s.raise k x).flagC = s.flagC := rfl
@[simp] theorem State.raise_cond (k : AccessKind) (x : Word) (s : State) (q : Cond) : (s.raise k x).cond q = s.cond q := by
  cases q <;> rfl
@[simp] theorem State.raise_region (k : AccessKind) (x : Word) (s : State) (q : Word) : (s.raise k x).region q = s.region q := rfl
@[simp] theorem State.raise_byteAt (k : AccessKind) (x : Word) (s : State) (q : Word) : (s.raise k x).byteAt q = s.byteAt q := rfl
@[simp] theorem State.raise_readAnswer (k : AccessKind) (x : Word) (s : State) (q : Word) : (s.raise k x).readAnswer q = s.readAnswer q := rfl
@[simp] theorem State.raise_writeAccepted (k : AccessKind) (x : Word) (s : State) (q : Word) : (s.raise k x).writeAccepted q = s.writeAccepted q := rfl

/-! ### setFlags -/

@[simp] theorem State.setFlags_a (z n h c : Bool) (s : State) : (s.setFlags z n h c).a = s.a := rfl
@[simp] theorem State.setFlags_f (z n h c : Bool) (s : State) : (s.setFlags z n h c).f = flagByte z n h c := rfl
@[simp] theorem State.setFlags_b (z n h c : Bool) (s : State) : (s.setFlags z n h c).b = s.b := rfl
@[simp] theorem State.setFlags_c (z n h c : Bool) (s : State) : (s.setFlags z n h c).c = s.c := rfl
@[simp] theorem State.setFlags_d (z n h c : Bool) (s : State) : (s.setFlags z n h c).d = s.d := rfl
@[simp] theorem State.setFlags_e (z n h c : Bool) (s : State) : (s.setFlags z n h c).e = s.e := rfl
@[simp] theorem State.setFlags_h (z n h c : Bool) (s : State) : (s.setFlags z n h c).h = s.h := rfl
@[simp] theorem State.setFlags_l (z n h c : Bool) (s : State) : (s.setFlags z n h c).l = s.l := rfl
@[simp] theorem State.setFlags_sp (z n h c : Bool) (s : State) : (s.setFlags z n h c).sp = s.sp := rfl
@[simp] theorem State.setFlags_pc (z n h c : Bool) (s : State) : (s.setFlags z n h c).pc = s.pc := rfl
@[simp] theorem State.setFlags_ime (z n h c : Bool) (s : State) : (s.setFlags z n h c).ime = s.ime := rfl
@[simp] theorem State.setFlags_imePending (z n h c : Bool) (s : State) : (s.setFlags z n h c).imePending = s.imePending := rfl
@[simp] theorem State.setFlags_run (z n h c : Bool) (s : State) : (s.setFlags z n h c).run = s.run := rfl
@[simp] theorem State.setFlags_cycles (z n h c : Bool) (s : State) : (s.setFlags z n h c).cycles = s.cycles := rfl
@[simp] theorem State.setFlags_fault (z n h c : Bool) (s : State) : (s.setFlags z n h c).fault = s.fault := rfl
@[simp] theorem State.setFlags_mem (z n h c : Bool) (s : State) : (s.setFlags z n h c).mem = s.mem := rfl
@[simp] theorem State.setFlags_busMap (z n h c : Bool) (s : State) : (s.setFlags z n h c).busMap = s.busMap := rfl
@[simp] theorem State.setFlags_deviceAccesses (z n h c : Bool) (s : State) : (s.setFlags z n h c).deviceAccesses = s.deviceAccesses := rfl
@[simp] theorem State.setFlags_host (z n h c : Bool) (s : State) : (s.setFlags z n h c).host = s.host := rfl
@[simp] theorem State.setFlags_trace (z n h c : Bool) (s : State) : (s.setFlags z n h c).trace = s.trace := rfl
@[simp] theorem State.setFlags_reg8 (z n h c : Bool) (s : State) (q : Reg8) : (s.setFlags z n h c).reg8 q = s.reg8 q := by
  cases q <;> rfl
@[simp] theorem State.setFlags_pair (z n h c : Bool) (s : State) (q : Pair) : (s.setFlags z n h c).pair q = s.pair q := by
  cases q <;> rfl
@[simp] theorem State.setFlags_hl (z n h c : Bool) (s : State) : (s.setFlags z n h c).hl = s.hl := rfl
@[simp] theorem State.setFlags_region (z n h c : Bool) (s : State) (q : Word) : (s.setFlags z n h c).region q = s.region q := rfl
@[simp] theorem State.setFlags_byteAt (z n h c : Bool) (s : State) (q : Word) : (s.setFlags z n h c).byteAt q = s.byteAt q := rfl
@[simp] theorem State.setFlags_readAnswer (z n h c : Bool) (s : State) (q : Word) : (s.setFlags z n h c).readAnswer q = s.readAnswer q := rfl
@[simp] theorem State.setFlags_writeAccepted (z n h c : Bool) (s : State) (q : Word) : (s.setFlags z n h c).writeAccepted q = s.writeAccepted q := rfl

/-! ### setAluFlags -/

@[simp] theorem State.setAluFlags_a (r : Alu) (s : State) : (s.setAluFlags r).a = s.a := rfl
@[simp] theorem State.setAluFlags_f (r : Alu) (s : State) : (s.setAluFlags r).f = flagByte r.z r.n r.h r.c := rfl
@[simp] theorem State.setAluFlags_b (r : Alu) (s : State) : (s.setAluFlags r).b = s.b := rfl
@[simp] theorem State.setAluFlags_c (r : Alu) (s : State) : (s.setAluFlags r).c = s.c := rfl
@[simp] theorem State.setAluFlags_d (r : Alu) (s : State) : (s.setAluFlags r).d = s.d := rfl
@[simp] theorem State.setAluFlags_e (r : Alu) (s : State) : (s.setAluFlags r).e = s.e := rfl
@[simp] theorem State.setAluFlags_h (r : Alu) (s : State) : (s.setAluFlags r).h = s.h := rfl
@[simp] theorem State.setAluFlags_l (r : Alu) (s : State) : (s.setAluFlags r).l = s.l := rfl
@[simp] theorem State.setAluFlags_sp (r : Alu) (s : State) : (s.setAluFlags r).sp = s.sp := rfl
@[simp] theorem State.setAluFlags_pc (r : Alu) (s : State) : (s.setAluFlags r).pc = s.pc := rfl
@[simp] theorem State.setAluFlags_ime (r : Alu) (s : State) : (s.setAluFlags r).ime = s.ime := rfl
@[simp] theorem State.setAluFlags_imePending (r : Alu) (s : State) : (s.setAluFlags r).imePending = s.imePending := rfl
@[simp] theorem State.setAluFlags_run (r : Alu) (s : State) : (s.setAluFlags r).run = s.run := rfl
@[simp] theorem State.setAluFlags_cycles (r : Alu) (s : State) : (s.setAluFlags r).cycles = s.cycles := rfl
@[simp] theorem State.setAluFlags_fault (r : Alu) (s : State) : (s.setAluFlags r).fault = s.fault := rfl
@[simp] theorem State.setAluFlags_mem (r : Alu) (s : State) : (s.setAluFlags r).mem = s.mem := rfl
@[simp] theorem State.setAluFlags_busMap (r : Alu) (s : State) : (s.setAluFlags r).busMap = s.busMap := rfl
@[simp] theorem State.setAluFlags_deviceAccesses (r : Alu) (s : State) : (s.setAluFlags r).deviceAccesses = s.deviceAccesses := rfl
@[simp] theorem State.setAluFlags_host (r : Alu) (s : State) : (s.setAluFlags r).host = s.host := rfl
@[simp] theorem State.setAluFlags_trace (r : Alu) (s : State) : (s.setAluFlags r).trace = s.trace := rfl
@[simp] theorem State.setAluFlags_reg8 (r : Alu) (s : State) (q : Reg8) : (s.setAluFlags r).reg8 q = s.reg8 q := by
  cases q <;> rfl
@[simp] theorem State.setAluFlags_pair (r : Alu) (s : State) (q : Pair) : (s.setAluFlags r).pair q = s.pair q := by
  cases q <;> rfl
@[simp] theorem State.setAluFlags_hl (r : Alu) (s : State) : (s.setAluFlags r).hl = s.hl := rfl
@[simp] theorem State.setAluFlags_region (r : Alu) (s : State) (q : Word) : (s.setAluFlags r).region q = s.region q := rfl
@[simp] theorem State.setAluFlags_byteAt (r : Alu) (s : State) (q : Word) : (s.setAluFlags r).byteAt q = s.byteAt q := rfl
@[simp] theorem State.setAluFlags_readAnswer (r : Alu) (s : State) (q : Word) : (s.setAluFlags r).readAnswer q = s.readAnswer q := rfl
@[simp] theorem State.setAluFlags_writeAccepted (r : Alu) (s : State) (q : Word) : (s.setAluFlags r).writeAccepted q = s.writeAccepted q := rfl

/-! ### setAlu -/

@[simp] theorem State.setAlu_a (r : Alu) (s : State) : (s.setAlu r).a = r.result := rfl
@[simp] theorem State.setAlu_f (r : Alu) (s : State) : (s.setAlu r).f = flagByte r.z r.n r.h r.c := rfl
@[simp] theorem State.setAlu_b (r : Alu) (s : State) : (s.setAlu r).b = s.b := rfl
@[simp] theorem State.setAlu_c (r : Alu) (s : State) : (s.setAlu r).c = s.c := rfl
@[simp] theorem State.setAlu_d (r : Alu) (s : State) : (s.setAlu r).d = s.d := rfl
@[simp] theorem State.setAlu_e (r : Alu) (s : State) : (s.setAlu r).e = s.e := rfl
@[simp] theorem State.setAlu_h (r : Alu) (s : State) : (s.setAlu r).h = s.h := rfl
@[simp] theorem State.setAlu_l (r : Alu) (s : State) : (s.setAlu r).l = s.l := rfl
@[simp] theorem State.setAlu_sp (r : Alu) (s : State) : (s.setAlu r).sp = s.sp := rfl
@[simp] theorem State.setAlu_pc (r : Alu) (s : State) : (s.setAlu r).pc = s.pc := rfl
@[simp] theorem State.setAlu_ime (r : Alu) (s : State) : (s.setAlu r).ime = s.ime := rfl
@[simp] theorem State.setAlu_imePending (r : Alu) (s : State) : (s.setAlu r).imePending = s.imePending := rfl
@[simp] theorem State.setAlu_run (r : Alu) (s : State) : (s.setAlu r).run = s.run := rfl
@[simp] theorem State.setAlu_cycles (r : Alu) (s : State) : (s.setAlu r).cycles = s.cycles := rfl
@[simp] theorem State.setAlu_fault (r : Alu) (s : State) : (s.setAlu r).fault = s.fault := rfl
@[simp] theorem State.setAlu_mem (r : Alu) (s : State) : (s.setAlu r).mem = s.mem := rfl
@[simp] theorem State.setAlu_busMap (r : Alu) (s : State) : (s.setAlu r).busMap = s.busMap := rfl
@[simp] theorem State.setAlu_deviceAccesses (r : Alu) (s : State) : (s.setAlu r).deviceAccesses = s.deviceAccesses := rfl
@[simp] theorem State.setAlu_host (r : Alu) (s : State) : (s.setAlu r).host = s.host := rfl
@[simp] theorem State.setAlu_trace (r : Alu) (s : State) : (s.setAlu r).trace = s.trace := rfl
@[simp] theorem State.setAlu_pair (r : Alu) (s : State) (q : Pair) : (s.setAlu r).pair q = s.pair q := by
  cases q <;> rfl
@[simp] theorem State.setAlu_hl (r : Alu) (s : State) : (s.setAlu r).hl = s.hl := rfl
@[simp] theorem State.setAlu_region (r : Alu) (s : State) (q : Word) : (s.setAlu r).region q = s.region q := rfl
@[simp] theorem State.setAlu_byteAt (r : Alu) (s : State) (q : Word) : (s.setAlu r).byteAt q = s.byteAt q := rfl
@[simp] theorem State.setAlu_readAnswer (r : Alu) (s : State) (q : Word) : (s.setAlu r).readAnswer q = s.readAnswer q := rfl
@[simp] theorem State.setAlu_writeAccepted (r : Alu) (s : State) (q : Word) : (s.setAlu r).writeAccepted q = s.writeAccepted q := rfl

/-! ### setReg8 -/

@[simp] theorem State.setReg8_f (r : Reg8) (v : Byte) (s : State) : (s.setReg8 r v).f = s.f := by
  cases r <;> rfl
@[simp] theorem State.setReg8_sp (r : Reg8) (v : Byte) (s : State) : (s.setReg8 r v).sp = s.sp := by
  cases r <;> rfl
@[simp] theorem State.setReg8_pc (r : Reg8) (v : Byte) (s : State) : (s.setReg8 r v).pc = s.pc := by
  cases r <;> rfl
@[simp] theorem State.setReg8_ime (r : Reg8) (v : Byte) (s : State) : (s.setReg8 r v).ime = s.ime := by
  cases r <;> rfl
@[simp] theorem State.setReg8_imePending (r : Reg8) (v : Byte) (s : State) : (s.setReg8 r v).imePending = s.imePending := by
  cases r <;> rfl
@[simp] theorem State.setReg8_run (r : Reg8) (v : Byte) (s : State) : (s.setReg8 r v).run = s.run := by
  cases r <;> rfl
@[simp] theorem State.setReg8_cycles (r : Reg8) (v : Byte) (s : State) : (s.setReg8 r v).cycles = s.cycles := by
  cases r <;> rfl
@[simp] theorem State.setReg8_fault (r : Reg8) (v : Byte) (s : State) : (s.setReg8 r v).fault = s.fault := by
  cases r <;> rfl
@[simp] theorem State.setReg8_mem (r : Reg8) (v : Byte) (s : State) : (s.setReg8 r v).mem = s.mem := by
  cases r <;> rfl
@[simp] theorem State.setReg8_busMap (r : Reg8) (v : Byte) (s : State) : (s.setReg8 r v).busMap = s.busMap := by
  cases r <;> rfl
@[simp] theorem State.setReg8_deviceAccesses (r : Reg8) (v : Byte) (s : State) : (s.setReg8 r v).deviceAccesses = s.deviceAccesses := by
  cases r <;> rfl
@[simp] theorem State.setReg8_host (r : Reg8) (v : Byte) (s : State) : (s.setReg8 r v).host = s.host := by
  cases r <;> rfl
@[simp] theorem State.setReg8_trace (r : Reg8) (v : Byte) (s : State) : (s.setReg8 r v).trace = s.trace := by
  cases r <;> rfl
@[simp] theorem State.setReg8_flagZ (r : Reg8) (v : Byte) (s : State) : (s.setReg8 r v).flagZ = s.flagZ := by
  simp [State.flagZ]
@[simp] theorem State.setReg8_flagN (r : Reg8) (v : Byte) (s : State) : (s.setReg8 r v).flagN = s.flagN := by
  simp [State.flagN]
@[simp] theorem State.setReg8_flagH (r : Reg8) (v : Byte) (s : State) : (s.setReg8 r v).flagH = s.flagH := by
  simp [State.flagH]
@[simp] theorem State.setReg8_flagC (r : Reg8) (v : Byte) (s : State) : (s.setReg8 r v).flagC = s.flagC := by
  simp [State.flagC]
@[simp] theorem State.setReg8_cond (r : Reg8) (v : Byte) (s : State) (q : Cond) : (s.setReg8 r v).cond q = s.cond q := by
  cases q <;> simp [State.cond]
@[simp] theorem State.setReg8_region (r : Reg8) (v : Byte) (s : State) (q : Word) : (s.setReg8 r v).region q = s.region q := by
  simp [State.region]
@[simp] theorem State.setReg8_byteAt (r : Reg8) (v : Byte) (s : State) (q : Word) : (s.setReg8 r v).byteAt q = s.byteAt q := by
  simp [State.byteAt]
@[simp] theorem State.setReg8_readAnswer (r : Reg8) (v : Byte) (s : State) (q : Word) : (s.setReg8 r v).readAnswer q = s.readAnswer q := by
  simp [State.readAnswer]
@[simp] theorem State.setReg8_writeAccepted (r : Reg8) (v : Byte) (s : State) (q : Word) : (s.setReg8 r v).writeAccepted q = s.writeAccepted q := by
  simp [State.writeAccepted]

/-! ### setPair -/

@[simp] theorem State.setPair_a (rr : Pair) (v : Word) (s : State) : (s.setPair rr v).a = s.a := by
  cases rr <;> rfl
@[simp] theorem State.setPair_f (rr : Pair) (v : Word) (s : State) : (s.setPair rr v).f = s.f := by
  cases rr <;> rfl
@[simp] theorem State.setPair_pc (rr : Pair) (v : Word) (s : State) : (s.setPair rr v).pc = s.pc := by
  cases rr <;> rfl
@[simp] theorem State.setPair_ime (rr : Pair) (v : Word) (s : State) : (s.setPair rr v).ime = s.ime := by
  cases rr <;> rfl
@[simp] theorem State.setPair_imePending (rr : Pair) (v : Word) (s : State) : (s.setPair rr v).imePending = s.imePending := by
  cases rr <;> rfl
@[simp] theorem State.setPair_run (rr : Pair) (v : Word) (s : State) : (s.setPair rr v).run = s.run := by
  cases rr <;> rfl
@[simp] theorem State.setPair_cycles (rr : Pair) (v : Word) (s : State) : (s.setPair rr v).cycles = s.cycles := by
  cases rr <;> rfl
@[simp] theorem State.setPair_fault (rr : Pair) (v : Word) (s : State) : (s.setPair rr v).fault = s.fault := by
  cases rr <;> rfl
@[simp] theorem State.setPair_mem (rr : Pair) (v : Word) (s : State) : (s.setPair rr v).mem = s.mem := by
  cases rr <;> rfl
@[simp] theorem State.setPair_busMap (rr : Pair) (v : Word) (s : State) : (s.setPair rr v).busMap = s.busMap := by
  cases rr <;> rfl
@[simp] theorem State.setPair_deviceAccesses (rr : Pair) (v : Word) (s : State) : (s.setPair rr v).deviceAccesses = s.deviceAccesses := by
  cases rr <;> rfl
@[simp] theorem State.setPair_host (rr : Pair) (v : Word) (s : State) : (s.setPair rr v).host = s.host := by
  cases rr <;> rfl
@[simp] theorem State.setPair_trace (rr : Pair) (v : Word) (s : State) : (s.setPair rr v).trace = s.trace := by
  cases rr <;> rfl
@[simp] theorem State.setPair_flagZ (rr : Pair) (v : Word) (s : State) : (s.setPair rr v).flagZ = s.flagZ := by
  simp [State.flagZ]
@[simp] theorem State.setPair_flagN (rr : Pair) (v : Word) (s : State) : (s.setPair rr v).flagN = s.flagN := by
  simp [State.flagN]
@[simp] theorem State.setPair_flagH (rr : Pair) (v : Word) (s : State) : (s.setPair rr v).flagH = s.flagH := by
  simp [State.flagH]
@[simp] theorem State.setPair_flagC (rr : Pair) (v : Word) (s : State) : (s.setPair rr v).flagC = s.flagC := by
  simp [State.flagC]
@[simp] theorem State.setPair_cond (rr : Pair) (v : Word) (s : State) (q : Cond) : (s.setPair rr v).cond q = s.cond q := by
  cases q <;> simp [State.cond]
@[simp] theorem State.setPair_region (rr : Pair) (v : Word) (s : State) (q : Word) : (s.setPair rr v).region q = s.region q := by
  simp [State.region]
@[simp] theorem State.setPair_byteAt (rr : Pair) (v : Word) (s : State) (q : Word) : (s.setPair rr v).byteAt q = s.byteAt q := by
  simp [State.byteAt]
@[simp] theorem State.setPair_readAnswer (rr : Pair) (v : Word) (s : State) (q : Word) : (s.setPair rr v).readAnswer q = s.readAnswer q := by
  simp [State.readAnswer]
@[simp] theorem State.setPair_writeAccepted (rr : Pair) (v : Word) (s : State) (q : Word) : (s.setPair rr v).writeAccepted q = s.writeAccepted q := by
  simp [State.writeAccepted]

/-! ### setStackPair -/

@[simp] theorem State.setStackPair_sp (rr : StackPair) (v : Word) (s : State) : (s.setStackPair rr v).sp = s.sp := by
  cases rr <;> rfl
@[simp] theorem State.setStackPair_pc (rr : StackPair) (v : Word) (s : State) : (s.setStackPair rr v).pc = s.pc := by
  cases rr <;> rfl
@[simp] theorem State.setStackPair_ime (rr : StackPair) (v : Word) (s : State) : (s.setStackPair rr v).ime = s.ime := by
  cases rr <;> rfl
@[simp] theorem State.setStackPair_imePending (rr : StackPair) (v : Word) (s : State) : (s.setStackPair rr v).imePending = s.imePending := by
  cases rr <;> rfl
@[simp] theorem State.setStackPair_run (rr : StackPair) (v : Word) (s : State) : (s.setStackPair rr v).run = s.run := by
  cases rr <;> rfl
@[simp] theorem State.setStackPair_cycles (rr : StackPair) (v : Word) (s : State) : (s.setStackPair rr v).cycles = s.cycles := by
  cases rr <;> rfl
@[simp] theorem State.setStackPair_fault (rr : StackPair) (v : Word) (s : State) : (s.setStackPair rr v).fault = s.fault := by
  cases rr <;> rfl
@[simp] theorem State.setStackPair_mem (rr : StackPair) (v : Word) (s : State) : (s.setStackPair rr v).mem = s.mem := by
  cases rr <;> rfl
@[simp] theorem State.setStackPair_busMap (rr : StackPair) (v : Word) (s : State) : (s.setStackPair rr v).busMap = s.busMap := by
  cases rr <;> rfl
@[simp] theorem State.setStackPair_deviceAccesses (rr : StackPair) (v : Word) (s : State) : (s.setStackPair rr v).deviceAccesses = s.deviceAccesses := by
  cases rr <;> rfl
@[simp] theorem State.setStackPair_host (rr : StackPair) (v : Word) (s : State) : (s.setStackPair rr v).host = s.host := by
  cases rr <;> rfl
@[simp] theorem State.setStackPair_trace (rr : StackPair) (v : Word) (s : State) : (s.setStackPair rr v).trace = s.trace := by
  cases rr <;> rfl
@[simp] theorem State.setStackPair_region (rr : StackPair) (v : Word) (s : State) (q : Word) : (s.setStackPair rr v).region q = s.region q := by
  simp [State.region]
@[simp] theorem State.setStackPair_byteAt (rr : StackPair) (v : Word) (s : State) (q : Word) : (s.setStackPair rr v).byteAt q = s.byteAt q := by
  simp [State.byteAt]
@[simp] theorem State.setStackPair_readAnswer (rr : StackPair) (v : Word) (s : State) (q : Word) : (s.setStackPair rr v).readAnswer q = s.readAnswer q := by
  simp [State.readAnswer]
@[simp] theorem State.setStackPair_writeAccepted (rr : StackPair) (v : Word) (s : State) (q : Word) : (s.setStackPair rr v).writeAccepted q = s.writeAccepted q := by
  simp [State.writeAccepted]

/-! ### countAccess -/

@[simp] theorem State.countAccess_a (x : Word) (s : State) : (s.countAccess x).a = s.a := by
  unfold State.countAccess; split <;> rfl
@[simp] theorem State.countAccess_f (x : Word) (s : State) : (s.countAccess x).f = s.f := by
  unfold State.countAccess; split <;> rfl
@[simp] theorem State.countAccess_b (x : Word) (s : State) : (s.countAccess x).b = s.b := by
  unfold State.countAccess; split <;> rfl
@[simp] theorem State.countAccess_c (x : Word) (s : State) : (s.countAccess x).c = s.c := by
  unfold State.countAccess; split <;> rfl
@[simp] theorem State.countAccess_d (x : Word) (s : State) : (s.countAccess x).d = s.d := by
  unfold State.countAccess; split <;> rfl
@[simp] theorem State.countAccess_e (x : Word) (s : State) : (s.countAccess x).e = s.e := by
  unfold State.countAccess; split <;> rfl
@[simp] theorem State.countAccess_h (x : Word) (s : State) : (s.countAccess x).h = s.h := by
  unfold State.countAccess; split <;> rfl
@[simp] theorem State.countAccess_l (x : Word) (s : State) : (s.countAccess x).l = s.l := by
  unfold State.countAccess; split <;> rfl
@[simp] theorem State.countAccess_sp (x : Word) (s : State) : (s.countAccess x).sp = s.sp := by
  unfold State.countAccess; split <;> rfl
@[simp] theorem State.countAccess_pc (x : Word) (s : State) : (s.countAccess x).pc = s.pc := by
  unfold State.countAccess; split <;> rfl
@[simp] theorem State.countAccess_ime (x : Word) (s : State) : (s.countAccess x).ime = s.ime := by
  unfold State.countAccess; split <;> rfl
@[simp] theorem State.countAccess_imePending (x : Word) (s : State) : (s.countAccess x).imePending = s.imePending := by
  unfold State.countAccess; split <;> rfl
@[simp] theorem State.countAccess_run (x : Word) (s : State) : (s.countAccess x).run = s.run := by
  unfold State.countAccess; split <;> rfl
@[simp] theorem State.countAccess_cycles (x : Word) (s : State) : (s.countAccess x).cycles = s.cycles := by
  unfold State.countAccess; split <;> rfl
@[simp] theorem State.countAccess_fault (x : Word) (s : State) : (s.countAccess x).fault = s.fault := by
  unfold State.countAccess; split <;> rfl
@[simp] theorem State.countAccess_mem (x : Word) (s : State) : (s.countAccess x).mem = s.mem := by
  unfold State.countAccess; split <;> rfl
@[simp] theorem State.countAccess_busMap (x : Word) (s : State) : (s.countAccess x).busMap = s.busMap := by
  unfold State.countAccess; split <;> rfl
@[simp] theorem State.countAccess_host (x : Word) (s : State) : (s.countAccess x).host = s.host := by
  unfold State.countAccess; split <;> rfl
@[simp] theorem State.countAccess_trace (x : Word) (s : State) : (s.countAccess x).trace = s.trace := by
  unfold State.countAccess; split <;> rfl
@[simp] theorem State.countAccess_reg8 (x : Word) (s : State) (q : Reg8) : (s.countAccess x).reg8 q = s.reg8 q := by
  cases q <;> simp [State.reg8]
@[simp] theorem State.countAccess_pair (x : Word) (s : State) (q : Pair) : (s.countAccess x).pair q = s.pair q := by
  cases q <;> simp [State.pair]
@[simp] theorem State.countAccess_stackPair (x : Word) (s : State) (q : StackPair) : (s.countAccess x).stackPair q = s.stackPair q := by
  cases q <;> simp [State.stackPair]
@[simp] theorem State.countAccess_hl (x : Word) (s : State) : (s.countAccess x).hl = s.hl := by
  simp [State.hl]
@[simp] theorem State.countAccess_flagZ (x : Word) (s : State) : (s.countAccess x).flagZ = s.flagZ := by
  simp [State.flagZ]
@[simp] theorem State.countAccess_flagN (x : Word) (s : State) : (s.countAccess x).flagN = s.flagN := by
  simp [State.flagN]
@[simp] theorem State.countAccess_flagH (x : Word) (s : State) : (s.countAccess x).flagH = s.flagH := by
  simp [State.flagH]
@[simp] theorem State.countAccess_flagC (x : Word) (s : State) : (s.countAccess x).flagC = s.flagC := by
  simp [State.flagC]
@[simp] theorem State.countAccess_cond (x : Word) (s : State) (q : Cond) : (s.countAccess x).cond q = s.cond q := by
  cases q <;> simp [State.cond]
@[simp] theorem State.countAccess_region (x : Word) (s : State) (q : Word) : (s.countAccess x).region q = s.region q := by
  simp [State.region]
@[simp] theorem State.countAccess_byteAt (x : Word) (s : State) (q : Word) : (s.countAccess x).byteAt q = s.byteAt q := by
  simp [State.byteAt]

/-! ### store -/

@[simp] theorem State.store_a (x : Word) (v : Byte) (s : State) : (s.store x v).a = s.a := by
  unfold State.store; split <;> rfl
@[simp] theorem State.store_f (x : Word) (v : Byte) (s : State) : (s.store x v).f = s.f := by
  unfold State.store; split <;> rfl
@[simp] theorem State.store_b (x : Word) (v : Byte) (s : State) : (s.store x v).b = s.b := by
  unfold State.store; split <;> rfl
@[simp] theorem State.store_c (x : Word) (v : Byte) (s : State) : (s.store x v).c = s.c := by
  unfold State.store; split <;> rfl
@[simp] theorem State.store_d (x : Word) (v : Byte) (s : State) : (s.store x v).d = s.d := by
  unfold State.store; split <;> rfl
@[simp] theorem State.store_e (x : Word) (v : Byte) (s : State) : (s.store x v).e = s.e := by
  unfold State.store; split <;> rfl
@[simp] theorem State.store_h (x : Word) (v : Byte) (s : State) : (s.store x v).h = s.h := by
  unfold State.store; split <;> rfl
@[simp] theorem State.store_l (x : Word) (v : Byte) (s : State) : (s.store x v).l = s.l := by
  unfold State.store; split <;> rfl
@[simp] theorem State.store_sp (x : Word) (v : Byte) (s : State) : (s.store x v).sp = s.sp := by
  unfold State.store; split <;> rfl
@[simp] theorem State.store_pc (x : Word) (v : Byte) (s : State) : (s.store x v).pc = s.pc := by
  unfold State.store; split <;> rfl
@[simp] theorem State.store_ime (x : Word) (v : Byte) (s : State) : (s.store x v).ime = s.ime := by
  unfold State.store; split <;> rfl
@[simp] theorem State.store_imePending (x : Word) (v : Byte) (s : State) : (s.store x v).imePending = s.imePending := by
  unfold State.store; split <;> rfl
@[simp] theorem State.store_run (x : Word) (v : Byte) (s : State) : (s.store x v).run = s.run := by
  unfold State.store; split <;> rfl
@[simp] theorem State.store_cycles (x : Word) (v : Byte) (s : State) : (s.store x v).cycles = s.cycles := by
  unfold State.store; split <;> rfl
@[simp] theorem State.store_fault (x : Word) (v : Byte) (s : State) : (s.store x v).fault = s.fault := by
  unfold State.store; split <;> rfl
@[simp] theorem State.store_busMap (x : Word) (v : Byte) (s : State) : (s.store x v).busMap = s.busMap := by
  unfold State.store; split <;> rfl
@[simp] theorem State.store_deviceAccesses (x : Word) (v : Byte) (s : State) : (s.store x v).deviceAccesses = s.deviceAccesses := by
  unfold State.store; split <;> rfl
@[simp] theorem State.store_host (x : Word) (v : Byte) (s : State) : (s.store x v).host = s.host := by
  unfold State.store; split <;> rfl
@[simp] theorem State.store_trace (x : Word) (v : Byte) (s : State) : (s.store x v).trace = s.trace := by
  unfold State.store; split <;> rfl
@[simp] theorem State.store_reg8 (x : Word) (v : Byte) (s : State) (q : Reg8) : (s.store x v).reg8 q = s.reg8 q := by
  cases q <;> simp [State.reg8]
@[simp] theorem State.store_pair (x : Word) (v : Byte) (s : State) (q : Pair) : (s.store x v).pair q = s.pair q := by
  cases q <;> simp [State.pair]
@[simp] theorem State.store_stackPair (x : Word) (v : Byte) (s : State) (q : StackPair) : (s.store x v).stackPair q = s.stackPair q := by
  cases q <;> simp [State.stackPair]
@[simp] theorem State.store_hl (x : Word) (v : Byte) (s : State) : (s.store x v).hl = s.hl := by
  simp [State.hl]
@[simp] theorem State.store_flagZ (x : Word) (v : Byte) (s : State) : (s.store x v).flagZ = s.flagZ := by
  simp [State.flagZ]
@[simp] theorem State.store_flagN (x : Word) (v : Byte) (s : State) : (s.store x v).flagN = s.flagN := by
  simp [State.flagN]
@[simp] theorem State.store_flagH (x : Word) (v : Byte) (s : State) : (s.store x v).flagH = s.flagH := by
  simp [State.flagH]
@[simp] theorem State.store_flagC (x : Word) (v : Byte) (s : State) : (s.store x v).flagC = s.flagC := by
  simp [State.flagC]
@[simp] theorem State.store_cond (x : Word) (v : Byte) (s : State) (q : Cond) : (s.store x v).cond q = s.cond q := by
  cases q <;> simp [State.cond]
@[simp] theorem State.store_region (x : Word) (v : Byte) (s : State) (q : Word) : (s.store x v).region q = s.region q := by
  simp [State.region]
@[simp] theorem State.store_writeAccepted (x : Word) (v : Byte) (s : State) (q : Word) : (s.store x v).writeAccepted q = s.writeAccepted q := by
  simp [State.writeAccepted]

/-! ### Registers and pairs after a write -/

@[simp] theorem State.setReg8_reg8 (r : Reg8) (v : Byte) (s : State) (q : Reg8) :
    (s.setReg8 r v).reg8 q = if q = r then v else s.reg8 q := by
  cases r <;> cases q <;> rfl

@[simp] theorem State.setPair_pair_same (rr : Pair) (v : Word) (s : State) : (s.setPair rr v).pair rr = v := by
  cases rr <;> simp [State.setPair, State.pair]

end Sys2Proof.Machine
end

