-- ==== Sys2Proof/Laws/Access.lean ====
section
/-! SUPPORT. One lemma per shared operation that says once everything it can do: the bus accesses, the stack primitives,
interrupt entry, the end of an instruction, and the shared meanings that use the bus. -/

namespace Sys2Proof.Machine

/-! ### Bytes of memory after a store -/

/-- After a completed write the address holds the byte if plain memory backs it, and what it held otherwise. -/
theorem State.byteAt_store_same (a : Word) (v : Byte) (s : State) :
    (s.store a v).byteAt a = if (s.region a).backing = .memory then v else s.byteAt a := by
  unfold State.store State.byteAt
  split <;> simp [*]

/-- A completed write leaves every other address alone. -/
theorem State.byteAt_store_other {a b : Word} (v : Byte) (s : State) (h : b ≠ a) :
    (s.store a v).byteAt b = s.byteAt b := by
  unfold State.store State.byteAt
  split
  · exact memGet_memSet_other _ _ fun e => h (BitVec.eq_of_toNat_eq e)
  · rfl
  · rfl

/-! ### The end of an instruction -/

theorem complete_next {n : Nat} {s t : State} : complete n s = .next t ↔ t = s.report n := by
  simp [complete, eq_comm]

/-! ### Bus accesses -/

/-- A read ends the step with the BusFault recorded, or continues with the answer and the read in the record. -/
theorem busRead_next {k : AccessKind} {a : Word} {s t : State} {next : Byte → State → Result} :
    busRead k a s next = .next t ↔
      (s.readAnswer a = none ∧ t = (s.countAccess a).raise k a) ∨
      ∃ v, s.readAnswer a = some v ∧ next v ((s.countAccess a).emit (readEvent k a v)) = .next t := by
  unfold busRead
  cases h : s.readAnswer a <;> simp [eq_comm]

theorem busRead_of_answer {k : AccessKind} {a : Word} {s : State} {v : Byte} {next : Byte → State → Result}
    (h : s.readAnswer a = some v) :
    busRead k a s next = next v ((s.countAccess a).emit (readEvent k a v)) := by
  unfold busRead; rw [h]

theorem busRead_of_rejected {k : AccessKind} {a : Word} {s : State} {next : Byte → State → Result}
    (h : s.readAnswer a = none) : busRead k a s next = .next ((s.countAccess a).raise k a) := by
  unfold busRead; rw [h]

theorem memRead_of_answer {a : Word} {s : State} {v : Byte} {next : Byte → State → Result}
    (h : s.readAnswer a = some v) : memRead a s next = next v ((s.countAccess a).emit (.read a v)) :=
  busRead_of_answer h

theorem memRead_of_rejected {a : Word} {s : State} {next : Byte → State → Result}
    (h : s.readAnswer a = none) : memRead a s next = .next ((s.countAccess a).raise .read a) :=
  busRead_of_rejected h

theorem memRead_next {a : Word} {s t : State} {next : Byte → State → Result} :
    memRead a s next = .next t ↔
      (s.readAnswer a = none ∧ t = (s.countAccess a).raise .read a) ∨
      ∃ v, s.readAnswer a = some v ∧ next v ((s.countAccess a).emit (.read a v)) = .next t :=
  busRead_next

/-- A write ends the step with the BusFault recorded, or continues with the byte stored and the write in the
record. -/
theorem memWrite_next {a : Word} {v : Byte} {s t : State} {next : State → Result} :
    memWrite a v s next = .next t ↔
      (s.writeAccepted a = false ∧ t = (s.countAccess a).raise .write a) ∨
      (s.writeAccepted a = true ∧ next (((s.store a v).countAccess a).emit (.write a v)) = .next t) := by
  unfold memWrite
  cases h : s.writeAccepted a <;> simp [eq_comm]

theorem memWrite_of_accepted {a : Word} {v : Byte} {s : State} {next : State → Result}
    (h : s.writeAccepted a = true) :
    memWrite a v s next = next (((s.store a v).countAccess a).emit (.write a v)) := by
  unfold memWrite; simp [h]

theorem memWrite_of_rejected {a : Word} {v : Byte} {s : State} {next : State → Result}
    (h : s.writeAccepted a = false) : memWrite a v s next = .next ((s.countAccess a).raise .write a) := by
  unfold memWrite; simp [h]

/-- How many device accesses an access to an address so backed is. -/
def Backing.accesses : Backing → Nat
  | .memory => 0
  | .readOnly => 0
  | .device => 1

/-- The count goes up by one for an access to a device address, and stays for any other. -/
@[simp] theorem State.countAccess_deviceAccesses (a : Word) (s : State) :
    (s.countAccess a).deviceAccesses = s.deviceAccesses + (s.region a).backing.accesses := by
  cases h : (s.region a).backing <;> simp [State.countAccess, Backing.accesses, h]

/-- What the bus answers depends on the bus map, memory and the count of device accesses alone. -/
theorem State.readAnswer_congr {s t : State} (a : Word) (hb : t.busMap = s.busMap) (hm : t.mem = s.mem)
    (hd : t.deviceAccesses = s.deviceAccesses) : t.readAnswer a = s.readAnswer a := by
  simp only [State.readAnswer, State.region, State.byteAt, hb, hm, hd]; rfl

/-- What the bus accepts depends on the bus map and the count of device accesses alone. -/
theorem State.writeAccepted_congr {s t : State} (a : Word) (hb : t.busMap = s.busMap)
    (hd : t.deviceAccesses = s.deviceAccesses) : t.writeAccepted a = s.writeAccepted a := by
  simp only [State.writeAccepted, State.region, hb, hd]; rfl

/-! ### The shared meanings that use the bus -/

/-- A byte load: the fault of the read, or the register written, the PC moved and the cycles charged. -/
theorem loadByte_next {r : Reg8} {a : Word} {len cyc : Nat} {s t : State} :
    loadByte r a len cyc s = .next t ↔
      (s.readAnswer a = none ∧ t = ((s.advance len).countAccess a).raise .read a) ∨
      ∃ v, s.readAnswer a = some v ∧
        t = ((((s.advance len).countAccess a).emit (.read a v)).setReg8 r v).report cyc := by
  simp [loadByte, memRead_next, complete_next]

/-- A byte store: the fault of the write, or the byte stored, the PC moved and the cycles charged. -/
theorem storeByte_next {a : Word} {v : Byte} {len cyc : Nat} {s t : State} :
    storeByte a v len cyc s = .next t ↔
      (s.writeAccepted a = false ∧ t = ((s.advance len).countAccess a).raise .write a) ∨
      (s.writeAccepted a = true ∧
        t = ((((s.advance len).store a v).countAccess a).emit (.write a v)).report cyc) := by
  simp [storeByte, memWrite_next, complete_next]

/-- Push16: the fault of the first or the second write, or both bytes stored and SP down by two. -/
theorem push16_next {v : Word} {s t : State} {next : State → Result} :
    push16 v s next = .next t ↔
      (s.writeAccepted (s.sp - 1) = false ∧ t = ((s.setSp (s.sp - 1)).countAccess (s.sp - 1)).raise .write (s.sp - 1)) ∨
      (s.writeAccepted (s.sp - 1) = true ∧
        let u := ((((s.setSp (s.sp - 1)).store (s.sp - 1) (hiByte v)).countAccess (s.sp - 1)).emit
          (.write (s.sp - 1) (hiByte v))).setSp (s.sp - 1 - 1)
        ((u.writeAccepted (s.sp - 1 - 1) = false ∧ t = (u.countAccess (s.sp - 1 - 1)).raise .write (s.sp - 1 - 1)) ∨
         (u.writeAccepted (s.sp - 1 - 1) = true ∧
            next (((u.store (s.sp - 1 - 1) (loByte v)).countAccess (s.sp - 1 - 1)).emit
              (.write (s.sp - 1 - 1) (loByte v))) = .next t))) := by
  simp [push16, memWrite_next]

/-- Pop16: the fault of the first or the second read, or the word read and SP up by two. -/
theorem pop16_next {s t : State} {next : Word → State → Result} :
    pop16 s next = .next t ↔
      (s.readAnswer s.sp = none ∧ t = (s.countAccess s.sp).raise .read s.sp) ∨
      ∃ lo, s.readAnswer s.sp = some lo ∧
        let u := ((s.countAccess s.sp).emit (.read s.sp lo)).setSp (s.sp + 1)
        ((u.readAnswer (s.sp + 1) = none ∧ t = (u.countAccess (s.sp + 1)).raise .read (s.sp + 1)) ∨
         ∃ hi, u.readAnswer (s.sp + 1) = some hi ∧
           next (wordOfBytes hi lo)
             (((u.countAccess (s.sp + 1)).emit (.read (s.sp + 1) hi)).setSp (s.sp + 1 + 1)) = .next t) := by
  simp [pop16, memRead_next]

/-- A read-modify-write on one address, the shape of INC (HL), DEC (HL) and the CB forms on (HL): the fault of the
read, the fault of the write, or both done and the rest of the meaning. -/
theorem readModifyWrite_next {a : Word} {s t : State} {f : Byte → Byte} {next : Byte → State → Result} :
    (memRead a s fun v s1 => memWrite a (f v) s1 (next v)) = .next t ↔
      (s.readAnswer a = none ∧ t = (s.countAccess a).raise .read a) ∨
      ∃ v, s.readAnswer a = some v ∧
        let u := (s.countAccess a).emit (.read a v)
        ((u.writeAccepted a = false ∧ t = (u.countAccess a).raise .write a) ∨
         (u.writeAccepted a = true ∧
           next v (((u.store a (f v)).countAccess a).emit (.write a (f v))) = .next t)) := by
  simp [memRead_next, memWrite_next]

end Sys2Proof.Machine
end

