-- ==== Sys2Proof/Laws/Completion.lean ====
section
/-! SUPPORT. How a meaning of each bus shape completes: no access, one read, one write, a read and then a write at HL, a
push, a pop. A statement about an instruction follows from the equation of its meaning and what its last update does. -/

namespace Sys2Proof.Machine

/-- The update leaves everything a bus access can see, PC, the cycles and the control state as they were. -/
structure Unseen (s t : State) : Prop where
  pc : t.pc = s.pc
  cycles : t.cycles = s.cycles
  trace : t.trace = s.trace
  platform : SamePlatform s t
  control : SameControl s t
  memory : t.mem = s.mem
  accesses : t.deviceAccesses = s.deviceAccesses

theorem Unseen.sameMemory {s t : State} (h : Unseen s t) : SameMemory s t := fun a => by
  simp only [State.byteAt, h.memory]

/-- A store, seen from an earlier state with the same bus map and memory. -/
theorem storedByte_store (a : Word) (v : Byte) {s u t : State} (hr : u.busMap = s.busMap) (hm : u.mem = s.mem)
    (ht : t.mem = (u.store a v).mem) : StoredByte a v s t := by
  have hb : ∀ x, t.byteAt x = (u.store a v).byteAt x := fun x => by simp only [State.byteAt, ht]
  have hs : ∀ x, u.byteAt x = s.byteAt x := fun x => by simp only [State.byteAt, hm]
  have hg : u.region a = s.region a := by simp only [State.region, hr]
  exact ⟨by rw [hb, State.byteAt_store_same, hg, hs], fun b h => by rw [hb, State.byteAt_store_other v u h, hs]⟩

/-- Two stores in a row, to different addresses. -/
theorem storedTwoBytes_store {a b : Word} {v w : Byte} {s u u2 t : State} (hab : a ≠ b)
    (hr : u.busMap = s.busMap) (hm : u.mem = s.mem) (hr2 : u2.busMap = s.busMap) (hm2 : u2.mem = (u.store a v).mem)
    (ht : t.mem = (u2.store b w).mem) : StoredTwoBytes a v b w s t := by
  have first : StoredByte a v s u2 := storedByte_store a v hr hm hm2
  have second : StoredByte b w u2 t := storedByte_store b w rfl rfl ht
  refine ⟨?_, ?_, fun x hx hy => ?_⟩
  · rw [second.2 a hab, first.1]
  · rw [second.1, first.2 b hab.symm, show u2.region b = s.region b by simp only [State.region, hr2]]
  · rw [second.2 x hy, first.2 x hx]

/-- No bus access: `u` is what the meaning does before it ends. -/
theorem quiet_intro {i : Instr} {pc : State → Word} {cyc : State → Nat} {post : State → State → Prop}
    {u : State → State} (h : ∀ s, exec i s = complete (cyc s) (u s)) (hp : ∀ s, (u s).pc = pc s)
    (hu : ∀ s, Unseen { s with pc := pc s } (u s)) (hpost : ∀ s, post s ((u s).report (cyc s))) :
    Quiet i pc cyc post := by
  intro s
  have hs := hu s
  refine ⟨(u s).report (cyc s), by rw [h]; rfl, hp s, ?_, ?_, hs.platform, hs.control, ?_, hs.accesses, hpost s⟩
  · simp [hs.cycles]
  · simp [hs.trace]
  · intro a; exact hs.sameMemory a

/-- One read, then `u` with the byte read. -/
theorem readsOnce_intro {i : Instr} {len cyc : Nat} {a : State → Word} {post : Byte → State → State → Prop}
    {u : Byte → State → State → State}
    (h : ∀ s, exec i s = memRead (a s) (s.advance len) fun v s1 => complete cyc (u v s s1))
    (hu : ∀ v s s1, Unseen s1 (u v s s1))
    (hpost : ∀ v s, post v s ((u v s (((s.advance len).countAccess (a s)).emit (.read (a s) v))).report cyc)) :
    ReadsOnce i len cyc a post := by
  intro s
  constructor
  · intro v hv
    have hs := hu v s (((s.advance len).countAccess (a s)).emit (.read (a s) v))
    refine ⟨_, by rw [h, memRead_of_answer (v := v) (by simpa using hv)]; rfl, ?_, ?_, ?_, ?_, ?_, ?_, ?_, hpost v s⟩
    · simp [hs.pc, past]
    · simp [hs.cycles]
    · simp [hs.trace]
    · simpa [SamePlatform] using hs.platform
    · simpa [SameControl] using hs.control
    · simpa [SameMemory] using hs.sameMemory
    · simp [hs.accesses]
  · intro hv
    refine ⟨_, by rw [h, memRead_of_rejected (by simpa using hv)], ?_⟩
    simp [SamePlatform, SameReg8, SameMemory, past]

/-- One write, then `u`. -/
theorem writesOnce_intro {i : Instr} {len cyc : Nat} {a : State → Word} {w : State → Byte}
    {post : State → State → Prop} {u : State → State → State}
    (h : ∀ s, exec i s = memWrite (a s) (w s) (s.advance len) fun s1 => complete cyc (u s s1))
    (hu : ∀ s s1, Unseen s1 (u s s1)) (hf : ∀ s s1, (u s s1).f = s1.f ∧ (u s s1).sp = s1.sp)
    (hpost : ∀ s, post s
      ((u s ((((s.advance len).store (a s) (w s)).countAccess (a s)).emit (.write (a s) (w s)))).report cyc)) :
    WritesOnce i len cyc a w post := by
  intro s
  constructor
  · intro hv
    have hs := hu s ((((s.advance len).store (a s) (w s)).countAccess (a s)).emit (.write (a s) (w s)))
    refine ⟨_, by rw [h, memWrite_of_accepted (by simpa using hv)]; rfl, ?_, ?_, ?_, ?_, ?_, ?_, ?_, ?_, ?_, hpost s⟩
    · simp [hs.pc, past]
    · simp [hs.cycles]
    · simp [hs.trace]
    · simpa [SamePlatform] using hs.platform
    · simpa [SameControl] using hs.control
    · exact storedByte_store (u := s.advance len) _ _ rfl rfl (by simp [hs.memory])
    · simp [hs.accesses]
    · simp [(hf _ _).1]
    · simp [(hf _ _).2]
  · intro hv
    refine ⟨_, by rw [h, memWrite_of_rejected (by simpa using hv)], ?_⟩
    simp [SamePlatform, SameReg8, SameMemory, past]

/-- A read at HL, a write there, then `u` with the byte read. -/
theorem readModifyWrites_intro {i : Instr} {len cyc : Nat} {f : State → Byte → Byte}
    {post : Byte → State → State → Prop} {u : Byte → State → State → State}
    (h : ∀ s, exec i s = memRead s.hl (s.advance len) fun v s1 =>
      memWrite s.hl (f s v) s1 fun s2 => complete cyc (u v s s2))
    (hu : ∀ v s s1, Unseen s1 (u v s s1)) (hr : ∀ v s s1, SameReg8 s1 (u v s s1) ∧ (u v s s1).sp = s1.sp)
    (hpost : ∀ v s s2, (∀ q : Reg8, s2.reg8 q = s.reg8 q) → s2.f = s.f → post v s ((u v s s2).report cyc)) :
    ReadModifyWrites i len cyc f post := by
  intro s
  constructor
  · intro v hv
    have hc : ∀ b, (((s.advance len).countAccess s.hl).emit (.read s.hl v)).writeAccepted b =
        (s.countAccess s.hl).writeAccepted b := fun b => State.writeAccepted_congr b (by simp) (by simp)
    constructor
    · intro hw
      have hs := hu v s ((((((s.advance len).countAccess s.hl).emit (.read s.hl v)).store s.hl (f s v)).countAccess
        s.hl).emit (.write s.hl (f s v)))
      refine ⟨_, by
        rw [h, memRead_of_answer (v := v) (by simpa using hv), memWrite_of_accepted (by rw [hc]; exact hw)]; rfl,
        ?_, ?_, ?_, ?_, ?_, ?_, ?_, ?_, ?_, hpost v s _ (by simp) (by simp)⟩
      · simp [hs.pc, past]
      · simp [hs.cycles]
      · simp [hs.trace]
      · simpa [SamePlatform] using hs.platform
      · simpa [SameControl] using hs.control
      · exact storedByte_store (u := ((s.advance len).countAccess s.hl).emit (.read s.hl v)) _ _ (by simp) (by simp)
          (by simp [hs.memory])
      · simp [hs.accesses]
      · intro q; simp [(hr _ _ _).1 q]
      · simp [(hr _ _ _).2]
    · intro hw
      refine ⟨_, by
        rw [h, memRead_of_answer (v := v) (by simpa using hv), memWrite_of_rejected (by rw [hc]; exact hw)], ?_⟩
      simp [SamePlatform, SameReg8, SameMemory, past]
  · intro hv
    refine ⟨_, by rw [h, memRead_of_rejected (by simpa using hv)], ?_⟩
    simp [SamePlatform, SameReg8, SameMemory, past]

/-- A push after the PC advance, then `u`, which may only move PC. -/
theorem pushesWord_intro {r : Result} {s : State} {v pc : Word} {len cyc : Nat} {u : State → State}
    (h : r = push16 v (s.advance len) fun s1 => complete cyc (u s1))
    (hu : ∀ s1 : State, s1.pc = past len s → u s1 = s1.setPc pc) : PushesWord r s (past len s) v pc cyc := by
  have e2 : s.sp - 1 - 1 = s.sp - 2 := by rw [BitVec.sub_sub]; rfl
  subst h
  unfold push16
  constructor
  · intro h1
    have hc : ∀ b, ((((((s.advance len).setSp (s.sp - 1)).store (s.sp - 1) (hiByte v)).countAccess (s.sp - 1)).emit
        (.write (s.sp - 1) (hiByte v))).setSp (s.sp - 2)).writeAccepted b =
          (s.countAccess (s.sp - 1)).writeAccepted b :=
      fun b => State.writeAccepted_congr b (by simp) (by simp)
    constructor
    · intro h2
      refine ⟨_, by
        simp only [State.advance_sp, State.setSp_sp]
        rw [memWrite_of_accepted (by simpa using h1)]
        simp only [State.emit_sp, State.countAccess_sp, State.store_sp, State.setSp_sp, e2]
        rw [memWrite_of_accepted (by exact (hc _).trans h2), hu _ (by simp [past])]; rfl, ?_⟩
      refine ⟨by simp, by simp, by simp, by simp [SamePlatform], by simp [SameControl], by simp, ?_, by simp, by simp, ?_⟩
      · intro q; simp
      · exact storedTwoBytes_store (u := (s.advance len).setSp (s.sp - 1))
          (u2 := (((((s.advance len).setSp (s.sp - 1)).store (s.sp - 1) (hiByte v)).countAccess (s.sp - 1)).emit
            (.write (s.sp - 1) (hiByte v))).setSp (s.sp - 2)) (by bv_omega) rfl rfl (by simp) (by simp) (by simp)
    · intro h2
      refine ⟨_, by
        simp only [State.advance_sp, State.setSp_sp]
        rw [memWrite_of_accepted (by simpa using h1)]
        simp only [State.emit_sp, State.countAccess_sp, State.store_sp, State.setSp_sp, e2]
        rw [memWrite_of_rejected (by exact (hc _).trans h2)], ?_⟩
      refine ⟨by simp, by simp, by simp, by simp [SamePlatform], by simp, by simp, by simp, ?_, by simp,
        by simp [past], ?_⟩
      · intro q; simp
      · exact storedByte_store (u := (s.advance len).setSp (s.sp - 1)) _ _ rfl rfl (by simp)
  · intro h1
    refine ⟨_, by
      simp only [State.advance_sp, State.setSp_sp]
      rw [memWrite_of_rejected (by simpa using h1)], ?_⟩
    simp [SamePlatform, SameReg8, SameMemory, past]

/-- A pop after the PC advance, then `u` with the word read. -/
theorem popsWord_intro {r : Result} {s : State} {pc : Word → Word} {len cyc : Nat} {control : State → State → Prop}
    {post : Word → State → State → Prop} {u : Word → State → State}
    (h : r = pop16 (s.advance len) fun v s1 => complete cyc (u v s1))
    (hu : ∀ v s1, (u v s1).sp = s1.sp ∧ (u v s1).cycles = s1.cycles ∧ (u v s1).trace = s1.trace ∧
      SamePlatform s1 (u v s1) ∧ (u v s1).mem = s1.mem ∧ (u v s1).deviceAccesses = s1.deviceAccesses)
    (hpc : ∀ v s1, s1.pc = past len s → (u v s1).pc = pc v)
    (hpost : ∀ v s1, (∀ q : Reg8, s1.reg8 q = s.reg8 q) → s1.f = s.f → SameControl s s1 →
      control s ((u v s1).report cyc) ∧ post v s ((u v s1).report cyc)) :
    PopsWord r s (past len s) pc cyc control post := by
  have e2 : s.sp + 1 + 1 = s.sp + 2 := by rw [BitVec.add_assoc]; rfl
  subst h
  unfold pop16
  constructor
  · intro lo hlo
    have hc : ∀ b, ((((s.advance len).countAccess s.sp).emit (.read s.sp lo)).setSp (s.sp + 1)).readAnswer b =
        (s.countAccess s.sp).readAnswer b := fun b => State.readAnswer_congr b (by simp) (by simp) (by simp)
    constructor
    · intro hi hhi
      obtain ⟨h1, h2, h3, h4, h5, h6⟩ := hu (hi ++ lo) (((((((s.advance len).countAccess s.sp).emit
        (.read s.sp lo)).setSp (s.sp + 1)).countAccess (s.sp + 1)).emit (.read (s.sp + 1) hi)).setSp (s.sp + 2))
      refine ⟨_, by
        simp only [State.advance_sp]
        rw [memRead_of_answer (v := lo) (by simpa using hlo)]
        simp only [State.emit_sp, State.countAccess_sp, State.setSp_sp, State.advance_sp]
        rw [memRead_of_answer (v := hi) (by exact (hc _).trans hhi)]
        simp only [State.emit_sp, State.countAccess_sp, State.setSp_sp, e2]; rfl, ?_⟩
      have hp := hpost (hi ++ lo) (((((((s.advance len).countAccess s.sp).emit
        (.read s.sp lo)).setSp (s.sp + 1)).countAccess (s.sp + 1)).emit (.read (s.sp + 1) hi)).setSp (s.sp + 2))
        (by simp) (by simp) (by simp [SameControl])
      refine ⟨?_, hpc (hi ++ lo) _ (by simp [past]), ?_, ?_, ?_, ?_, ?_, hp.1, hp.2⟩
      · exact h1.trans (by simp)
      · exact congrArg (· + cyc) (h2.trans (by simp))
      · exact congrArg (Event.report cyc :: ·) (h3.trans (by simp))
      · simpa [SamePlatform, wordOfBytes] using h4
      · intro a; simp only [State.byteAt, State.report_mem, wordOfBytes, h5]; simp
      · exact h6.trans (by simp)
    · intro hhi
      refine ⟨_, by
        simp only [State.advance_sp]
        rw [memRead_of_answer (v := lo) (by simpa using hlo)]
        simp only [State.emit_sp, State.countAccess_sp, State.setSp_sp, State.advance_sp]
        rw [memRead_of_rejected (by exact (hc _).trans hhi)], ?_⟩
      simp [SamePlatform, SameReg8, SameMemory, past]
  · intro hlo
    refine ⟨_, by
      simp only [State.advance_sp]
      rw [memRead_of_rejected (by simpa using hlo)], ?_⟩
    simp [SamePlatform, SameReg8, SameMemory, past]

/-! ### Placing an instruction (log 18) -/

theorem State.placeByte_wf (a : Word) (v : Byte) (s : State) (h : Memory.wf s.mem = true) :
    Memory.wf (s.placeByte a v).mem = true := by
  unfold State.placeByte
  dsimp only
  split <;> exact memSet_wf v a.isLt h

theorem placeBytes_wf (bs : List Byte) : ∀ (a : Word) (s : State), Memory.wf s.mem = true →
    Memory.wf (placeBytes bs a s).mem = true := by
  induction bs with
  | nil => exact fun _ _ h => h
  | cons v vs ih => exact fun a s h => ih _ _ (State.placeByte_wf a v s h)

theorem State.withFetchWord_wf (s : State) (nbits w : Nat) (h : Memory.wf s.mem = true) :
    Memory.wf (s.withFetchWord nbits w).mem = true :=
  placeBytes_wf _ _ _ h

end Sys2Proof.Machine
end

