-- ==== Sys2Proof/Laws/PerInstr.lean ====
section
/-! SUPPORT. Per instruction: its encoding has the byte length its descriptor gives (R120, R116). -/

namespace Sys2Proof.Laws.EncodedLength

/-- The encoding of `i` is as long as the table says. -/
def Statement (i : Instr) : Prop := (encode i).length = (Machine.descriptor i).length

theorem nop : Statement .nop := rfl
theorem ldBC_d16 (n : Word) : Statement (.ldBC_d16 n) := rfl
theorem ldMemBC_A : Statement .ldMemBC_A := rfl
theorem incBC : Statement .incBC := rfl
theorem incB : Statement .incB := rfl
theorem decB : Statement .decB := rfl
theorem ldB_d8 (n : Byte) : Statement (.ldB_d8 n) := rfl
theorem rlca : Statement .rlca := rfl
theorem ldMemA16_SP (n : Word) : Statement (.ldMemA16_SP n) := rfl
theorem addHL_BC : Statement .addHL_BC := rfl
theorem ldA_MemBC : Statement .ldA_MemBC := rfl
theorem decBC : Statement .decBC := rfl
theorem incC : Statement .incC := rfl
theorem decC : Statement .decC := rfl
theorem ldC_d8 (n : Byte) : Statement (.ldC_d8 n) := rfl
theorem rrca : Statement .rrca := rfl
theorem stop (n : Byte) : Statement (.stop n) := rfl
theorem ldDE_d16 (n : Word) : Statement (.ldDE_d16 n) := rfl
theorem ldMemDE_A : Statement .ldMemDE_A := rfl
theorem incDE : Statement .incDE := rfl
theorem incD : Statement .incD := rfl
theorem decD : Statement .decD := rfl
theorem ldD_d8 (n : Byte) : Statement (.ldD_d8 n) := rfl
theorem rla : Statement .rla := rfl
theorem jrR8 (n : Byte) : Statement (.jrR8 n) := rfl
theorem addHL_DE : Statement .addHL_DE := rfl
theorem ldA_MemDE : Statement .ldA_MemDE := rfl
theorem decDE : Statement .decDE := rfl
theorem incE : Statement .incE := rfl
theorem decE : Statement .decE := rfl
theorem ldE_d8 (n : Byte) : Statement (.ldE_d8 n) := rfl
theorem rra : Statement .rra := rfl
theorem jrNZ_r8 (n : Byte) : Statement (.jrNZ_r8 n) := rfl
theorem ldHL_d16 (n : Word) : Statement (.ldHL_d16 n) := rfl
theorem ldMemHLInc_A : Statement .ldMemHLInc_A := rfl
theorem incHL : Statement .incHL := rfl
theorem incH : Statement .incH := rfl
theorem decH : Statement .decH := rfl
theorem ldH_d8 (n : Byte) : Statement (.ldH_d8 n) := rfl
theorem daa : Statement .daa := rfl
theorem jrZ_r8 (n : Byte) : Statement (.jrZ_r8 n) := rfl
theorem addHL_HL : Statement .addHL_HL := rfl
theorem ldA_MemHLInc : Statement .ldA_MemHLInc := rfl
theorem decHL : Statement .decHL := rfl
theorem incL : Statement .incL := rfl
theorem decL : Statement .decL := rfl
theorem ldL_d8 (n : Byte) : Statement (.ldL_d8 n) := rfl
theorem cpl : Statement .cpl := rfl
theorem jrNC_r8 (n : Byte) : Statement (.jrNC_r8 n) := rfl
theorem ldSP_d16 (n : Word) : Statement (.ldSP_d16 n) := rfl
theorem ldMemHLDec_A : Statement .ldMemHLDec_A := rfl
theorem incSP : Statement .incSP := rfl
theorem incMemHL : Statement .incMemHL := rfl
theorem decMemHL : Statement .decMemHL := rfl
theorem ldMemHL_d8 (n : Byte) : Statement (.ldMemHL_d8 n) := rfl
theorem scf : Statement .scf := rfl
theorem jrC_r8 (n : Byte) : Statement (.jrC_r8 n) := rfl
theorem addHL_SP : Statement .addHL_SP := rfl
theorem ldA_MemHLDec : Statement .ldA_MemHLDec := rfl
theorem decSP : Statement .decSP := rfl
theorem incA : Statement .incA := rfl
theorem decA : Statement .decA := rfl
theorem ldA_d8 (n : Byte) : Statement (.ldA_d8 n) := rfl
theorem ccf : Statement .ccf := rfl
theorem ldB_B : Statement .ldB_B := rfl
theorem ldB_C : Statement .ldB_C := rfl
theorem ldB_D : Statement .ldB_D := rfl
theorem ldB_E : Statement .ldB_E := rfl
theorem ldB_H : Statement .ldB_H := rfl
theorem ldB_L : Statement .ldB_L := rfl
theorem ldB_MemHL : Statement .ldB_MemHL := rfl
theorem ldB_A : Statement .ldB_A := rfl
theorem ldC_B : Statement .ldC_B := rfl
theorem ldC_C : Statement .ldC_C := rfl
theorem ldC_D : Statement .ldC_D := rfl
theorem ldC_E : Statement .ldC_E := rfl
theorem ldC_H : Statement .ldC_H := rfl
theorem ldC_L : Statement .ldC_L := rfl
theorem ldC_MemHL : Statement .ldC_MemHL := rfl
theorem ldC_A : Statement .ldC_A := rfl
theorem ldD_B : Statement .ldD_B := rfl
theorem ldD_C : Statement .ldD_C := rfl
theorem ldD_D : Statement .ldD_D := rfl
theorem ldD_E : Statement .ldD_E := rfl
theorem ldD_H : Statement .ldD_H := rfl
theorem ldD_L : Statement .ldD_L := rfl
theorem ldD_MemHL : Statement .ldD_MemHL := rfl
theorem ldD_A : Statement .ldD_A := rfl
theorem ldE_B : Statement .ldE_B := rfl
theorem ldE_C : Statement .ldE_C := rfl
theorem ldE_D : Statement .ldE_D := rfl
theorem ldE_E : Statement .ldE_E := rfl
theorem ldE_H : Statement .ldE_H := rfl
theorem ldE_L : Statement .ldE_L := rfl
theorem ldE_MemHL : Statement .ldE_MemHL := rfl
theorem ldE_A : Statement .ldE_A := rfl
theorem ldH_B : Statement .ldH_B := rfl
theorem ldH_C : Statement .ldH_C := rfl
theorem ldH_D : Statement .ldH_D := rfl
theorem ldH_E : Statement .ldH_E := rfl
theorem ldH_H : Statement .ldH_H := rfl
theorem ldH_L : Statement .ldH_L := rfl
theorem ldH_MemHL : Statement .ldH_MemHL := rfl
theorem ldH_A : Statement .ldH_A := rfl
theorem ldL_B : Statement .ldL_B := rfl
theorem ldL_C : Statement .ldL_C := rfl
theorem ldL_D : Statement .ldL_D := rfl
theorem ldL_E : Statement .ldL_E := rfl
theorem ldL_H : Statement .ldL_H := rfl
theorem ldL_L : Statement .ldL_L := rfl
theorem ldL_MemHL : Statement .ldL_MemHL := rfl
theorem ldL_A : Statement .ldL_A := rfl
theorem ldMemHL_B : Statement .ldMemHL_B := rfl
theorem ldMemHL_C : Statement .ldMemHL_C := rfl
theorem ldMemHL_D : Statement .ldMemHL_D := rfl
theorem ldMemHL_E : Statement .ldMemHL_E := rfl
theorem ldMemHL_H : Statement .ldMemHL_H := rfl
theorem ldMemHL_L : Statement .ldMemHL_L := rfl
theorem halt : Statement .halt := rfl
theorem ldMemHL_A : Statement .ldMemHL_A := rfl
theorem ldA_B : Statement .ldA_B := rfl
theorem ldA_C : Statement .ldA_C := rfl
theorem ldA_D : Statement .ldA_D := rfl
theorem ldA_E : Statement .ldA_E := rfl
theorem ldA_H : Statement .ldA_H := rfl
theorem ldA_L : Statement .ldA_L := rfl
theorem ldA_MemHL : Statement .ldA_MemHL := rfl
theorem ldA_A : Statement .ldA_A := rfl
theorem addA_B : Statement .addA_B := rfl
theorem addA_C : Statement .addA_C := rfl
theorem addA_D : Statement .addA_D := rfl
theorem addA_E : Statement .addA_E := rfl
theorem addA_H : Statement .addA_H := rfl
theorem addA_L : Statement .addA_L := rfl
theorem addA_MemHL : Statement .addA_MemHL := rfl
theorem addA_A : Statement .addA_A := rfl
theorem adcA_B : Statement .adcA_B := rfl
theorem adcA_C : Statement .adcA_C := rfl
theorem adcA_D : Statement .adcA_D := rfl
theorem adcA_E : Statement .adcA_E := rfl
theorem adcA_H : Statement .adcA_H := rfl
theorem adcA_L : Statement .adcA_L := rfl
theorem adcA_MemHL : Statement .adcA_MemHL := rfl
theorem adcA_A : Statement .adcA_A := rfl
theorem subB : Statement .subB := rfl
theorem subC : Statement .subC := rfl
theorem subD : Statement .subD := rfl
theorem subE : Statement .subE := rfl
theorem subH : Statement .subH := rfl
theorem subL : Statement .subL := rfl
theorem subMemHL : Statement .subMemHL := rfl
theorem subA : Statement .subA := rfl
theorem sbcA_B : Statement .sbcA_B := rfl
theorem sbcA_C : Statement .sbcA_C := rfl
theorem sbcA_D : Statement .sbcA_D := rfl
theorem sbcA_E : Statement .sbcA_E := rfl
theorem sbcA_H : Statement .sbcA_H := rfl
theorem sbcA_L : Statement .sbcA_L := rfl
theorem sbcA_MemHL : Statement .sbcA_MemHL := rfl
theorem sbcA_A : Statement .sbcA_A := rfl
theorem andB : Statement .andB := rfl
theorem andC : Statement .andC := rfl
theorem andD : Statement .andD := rfl
theorem andE : Statement .andE := rfl
theorem andH : Statement .andH := rfl
theorem andL : Statement .andL := rfl
theorem andMemHL : Statement .andMemHL := rfl
theorem andA : Statement .andA := rfl
theorem xorB : Statement .xorB := rfl
theorem xorC : Statement .xorC := rfl
theorem xorD : Statement .xorD := rfl
theorem xorE : Statement .xorE := rfl
theorem xorH : Statement .xorH := rfl
theorem xorL : Statement .xorL := rfl
theorem xorMemHL : Statement .xorMemHL := rfl
theorem xorA : Statement .xorA := rfl
theorem orB : Statement .orB := rfl
theorem orC : Statement .orC := rfl
theorem orD : Statement .orD := rfl
theorem orE : Statement .orE := rfl
theorem orH : Statement .orH := rfl
theorem orL : Statement .orL := rfl
theorem orMemHL : Statement .orMemHL := rfl
theorem orA : Statement .orA := rfl
theorem cpB : Statement .cpB := rfl
theorem cpC : Statement .cpC := rfl
theorem cpD : Statement .cpD := rfl
theorem cpE : Statement .cpE := rfl
theorem cpH : Statement .cpH := rfl
theorem cpL : Statement .cpL := rfl
theorem cpMemHL : Statement .cpMemHL := rfl
theorem cpA : Statement .cpA := rfl
theorem retNZ : Statement .retNZ := rfl
theorem popBC : Statement .popBC := rfl
theorem jpNZ_a16 (n : Word) : Statement (.jpNZ_a16 n) := rfl
theorem jpA16 (n : Word) : Statement (.jpA16 n) := rfl
theorem callNZ_a16 (n : Word) : Statement (.callNZ_a16 n) := rfl
theorem pushBC : Statement .pushBC := rfl
theorem addA_d8 (n : Byte) : Statement (.addA_d8 n) := rfl
theorem rst00 : Statement .rst00 := rfl
theorem retZ : Statement .retZ := rfl
theorem ret : Statement .ret := rfl
theorem jpZ_a16 (n : Word) : Statement (.jpZ_a16 n) := rfl
theorem callZ_a16 (n : Word) : Statement (.callZ_a16 n) := rfl
theorem callA16 (n : Word) : Statement (.callA16 n) := rfl
theorem adcA_d8 (n : Byte) : Statement (.adcA_d8 n) := rfl
theorem rst08 : Statement .rst08 := rfl
theorem retNC : Statement .retNC := rfl
theorem popDE : Statement .popDE := rfl
theorem jpNC_a16 (n : Word) : Statement (.jpNC_a16 n) := rfl
theorem callNC_a16 (n : Word) : Statement (.callNC_a16 n) := rfl
theorem pushDE : Statement .pushDE := rfl
theorem subD8 (n : Byte) : Statement (.subD8 n) := rfl
theorem rst10 : Statement .rst10 := rfl
theorem retC : Statement .retC := rfl
theorem reti : Statement .reti := rfl
theorem jpC_a16 (n : Word) : Statement (.jpC_a16 n) := rfl
theorem callC_a16 (n : Word) : Statement (.callC_a16 n) := rfl
theorem sbcA_d8 (n : Byte) : Statement (.sbcA_d8 n) := rfl
theorem rst18 : Statement .rst18 := rfl
theorem ldhMemA8_A (n : Byte) : Statement (.ldhMemA8_A n) := rfl
theorem popHL : Statement .popHL := rfl
theorem ldMemC_A : Statement .ldMemC_A := rfl
theorem pushHL : Statement .pushHL := rfl
theorem andD8 (n : Byte) : Statement (.andD8 n) := rfl
theorem rst20 : Statement .rst20 := rfl
theorem addSP_r8 (n : Byte) : Statement (.addSP_r8 n) := rfl
theorem jpHL : Statement .jpHL := rfl
theorem ldMemA16_A (n : Word) : Statement (.ldMemA16_A n) := rfl
theorem xorD8 (n : Byte) : Statement (.xorD8 n) := rfl
theorem rst28 : Statement .rst28 := rfl
theorem ldhA_MemA8 (n : Byte) : Statement (.ldhA_MemA8 n) := rfl
theorem popAF : Statement .popAF := rfl
theorem ldA_MemC : Statement .ldA_MemC := rfl
theorem di : Statement .di := rfl
theorem pushAF : Statement .pushAF := rfl
theorem orD8 (n : Byte) : Statement (.orD8 n) := rfl
theorem rst30 : Statement .rst30 := rfl
theorem ldHL_SPr8 (n : Byte) : Statement (.ldHL_SPr8 n) := rfl
theorem ldSP_HL : Statement .ldSP_HL := rfl
theorem ldA_MemA16 (n : Word) : Statement (.ldA_MemA16 n) := rfl
theorem ei : Statement .ei := rfl
theorem cpD8 (n : Byte) : Statement (.cpD8 n) := rfl
theorem rst38 : Statement .rst38 := rfl
theorem prefixCb : Statement .prefixCb := rfl
theorem illegalD3 : Statement .illegalD3 := rfl
theorem illegalDB : Statement .illegalDB := rfl
theorem illegalDD : Statement .illegalDD := rfl
theorem illegalE3 : Statement .illegalE3 := rfl
theorem illegalE4 : Statement .illegalE4 := rfl
theorem illegalEB : Statement .illegalEB := rfl
theorem illegalEC : Statement .illegalEC := rfl
theorem illegalED : Statement .illegalED := rfl
theorem illegalF4 : Statement .illegalF4 := rfl
theorem illegalFC : Statement .illegalFC := rfl
theorem illegalFD : Statement .illegalFD := rfl
theorem rlcB : Statement .rlcB := rfl
theorem rlcC : Statement .rlcC := rfl
theorem rlcD : Statement .rlcD := rfl
theorem rlcE : Statement .rlcE := rfl
theorem rlcH : Statement .rlcH := rfl
theorem rlcL : Statement .rlcL := rfl
theorem rlcMemHL : Statement .rlcMemHL := rfl
theorem rlcA : Statement .rlcA := rfl
theorem rrcB : Statement .rrcB := rfl
theorem rrcC : Statement .rrcC := rfl
theorem rrcD : Statement .rrcD := rfl
theorem rrcE : Statement .rrcE := rfl
theorem rrcH : Statement .rrcH := rfl
theorem rrcL : Statement .rrcL := rfl
theorem rrcMemHL : Statement .rrcMemHL := rfl
theorem rrcA : Statement .rrcA := rfl
theorem rlB : Statement .rlB := rfl
theorem rlC : Statement .rlC := rfl
theorem rlD : Statement .rlD := rfl
theorem rlE : Statement .rlE := rfl
theorem rlH : Statement .rlH := rfl
theorem rlL : Statement .rlL := rfl
theorem rlMemHL : Statement .rlMemHL := rfl
theorem rlA : Statement .rlA := rfl
theorem rrB : Statement .rrB := rfl
theorem rrC : Statement .rrC := rfl
theorem rrD : Statement .rrD := rfl
theorem rrE : Statement .rrE := rfl
theorem rrH : Statement .rrH := rfl
theorem rrL : Statement .rrL := rfl
theorem rrMemHL : Statement .rrMemHL := rfl
theorem rrA : Statement .rrA := rfl
theorem slaB : Statement .slaB := rfl
theorem slaC : Statement .slaC := rfl
theorem slaD : Statement .slaD := rfl
theorem slaE : Statement .slaE := rfl
theorem slaH : Statement .slaH := rfl
theorem slaL : Statement .slaL := rfl
theorem slaMemHL : Statement .slaMemHL := rfl
theorem slaA : Statement .slaA := rfl
theorem sraB : Statement .sraB := rfl
theorem sraC : Statement .sraC := rfl
theorem sraD : Statement .sraD := rfl
theorem sraE : Statement .sraE := rfl
theorem sraH : Statement .sraH := rfl
theorem sraL : Statement .sraL := rfl
theorem sraMemHL : Statement .sraMemHL := rfl
theorem sraA : Statement .sraA := rfl
theorem swapB : Statement .swapB := rfl
theorem swapC : Statement .swapC := rfl
theorem swapD : Statement .swapD := rfl
theorem swapE : Statement .swapE := rfl
theorem swapH : Statement .swapH := rfl
theorem swapL : Statement .swapL := rfl
theorem swapMemHL : Statement .swapMemHL := rfl
theorem swapA : Statement .swapA := rfl
theorem srlB : Statement .srlB := rfl
theorem srlC : Statement .srlC := rfl
theorem srlD : Statement .srlD := rfl
theorem srlE : Statement .srlE := rfl
theorem srlH : Statement .srlH := rfl
theorem srlL : Statement .srlL := rfl
theorem srlMemHL : Statement .srlMemHL := rfl
theorem srlA : Statement .srlA := rfl
theorem bit0_B : Statement .bit0_B := rfl
theorem bit0_C : Statement .bit0_C := rfl
theorem bit0_D : Statement .bit0_D := rfl
theorem bit0_E : Statement .bit0_E := rfl
theorem bit0_H : Statement .bit0_H := rfl
theorem bit0_L : Statement .bit0_L := rfl
theorem bit0_MemHL : Statement .bit0_MemHL := rfl
theorem bit0_A : Statement .bit0_A := rfl
theorem bit1_B : Statement .bit1_B := rfl
theorem bit1_C : Statement .bit1_C := rfl
theorem bit1_D : Statement .bit1_D := rfl
theorem bit1_E : Statement .bit1_E := rfl
theorem bit1_H : Statement .bit1_H := rfl
theorem bit1_L : Statement .bit1_L := rfl
theorem bit1_MemHL : Statement .bit1_MemHL := rfl
theorem bit1_A : Statement .bit1_A := rfl
theorem bit2_B : Statement .bit2_B := rfl
theorem bit2_C : Statement .bit2_C := rfl
theorem bit2_D : Statement .bit2_D := rfl
theorem bit2_E : Statement .bit2_E := rfl
theorem bit2_H : Statement .bit2_H := rfl
theorem bit2_L : Statement .bit2_L := rfl
theorem bit2_MemHL : Statement .bit2_MemHL := rfl
theorem bit2_A : Statement .bit2_A := rfl
theorem bit3_B : Statement .bit3_B := rfl
theorem bit3_C : Statement .bit3_C := rfl
theorem bit3_D : Statement .bit3_D := rfl
theorem bit3_E : Statement .bit3_E := rfl
theorem bit3_H : Statement .bit3_H := rfl
theorem bit3_L : Statement .bit3_L := rfl
theorem bit3_MemHL : Statement .bit3_MemHL := rfl
theorem bit3_A : Statement .bit3_A := rfl
theorem bit4_B : Statement .bit4_B := rfl
theorem bit4_C : Statement .bit4_C := rfl
theorem bit4_D : Statement .bit4_D := rfl
theorem bit4_E : Statement .bit4_E := rfl
theorem bit4_H : Statement .bit4_H := rfl
theorem bit4_L : Statement .bit4_L := rfl
theorem bit4_MemHL : Statement .bit4_MemHL := rfl
theorem bit4_A : Statement .bit4_A := rfl
theorem bit5_B : Statement .bit5_B := rfl
theorem bit5_C : Statement .bit5_C := rfl
theorem bit5_D : Statement .bit5_D := rfl
theorem bit5_E : Statement .bit5_E := rfl
theorem bit5_H : Statement .bit5_H := rfl
theorem bit5_L : Statement .bit5_L := rfl
theorem bit5_MemHL : Statement .bit5_MemHL := rfl
theorem bit5_A : Statement .bit5_A := rfl
theorem bit6_B : Statement .bit6_B := rfl
theorem bit6_C : Statement .bit6_C := rfl
theorem bit6_D : Statement .bit6_D := rfl
theorem bit6_E : Statement .bit6_E := rfl
theorem bit6_H : Statement .bit6_H := rfl
theorem bit6_L : Statement .bit6_L := rfl
theorem bit6_MemHL : Statement .bit6_MemHL := rfl
theorem bit6_A : Statement .bit6_A := rfl
theorem bit7_B : Statement .bit7_B := rfl
theorem bit7_C : Statement .bit7_C := rfl
theorem bit7_D : Statement .bit7_D := rfl
theorem bit7_E : Statement .bit7_E := rfl
theorem bit7_H : Statement .bit7_H := rfl
theorem bit7_L : Statement .bit7_L := rfl
theorem bit7_MemHL : Statement .bit7_MemHL := rfl
theorem bit7_A : Statement .bit7_A := rfl
theorem res0_B : Statement .res0_B := rfl
theorem res0_C : Statement .res0_C := rfl
theorem res0_D : Statement .res0_D := rfl
theorem res0_E : Statement .res0_E := rfl
theorem res0_H : Statement .res0_H := rfl
theorem res0_L : Statement .res0_L := rfl
theorem res0_MemHL : Statement .res0_MemHL := rfl
theorem res0_A : Statement .res0_A := rfl
theorem res1_B : Statement .res1_B := rfl
theorem res1_C : Statement .res1_C := rfl
theorem res1_D : Statement .res1_D := rfl
theorem res1_E : Statement .res1_E := rfl
theorem res1_H : Statement .res1_H := rfl
theorem res1_L : Statement .res1_L := rfl
theorem res1_MemHL : Statement .res1_MemHL := rfl
theorem res1_A : Statement .res1_A := rfl
theorem res2_B : Statement .res2_B := rfl
theorem res2_C : Statement .res2_C := rfl
theorem res2_D : Statement .res2_D := rfl
theorem res2_E : Statement .res2_E := rfl
theorem res2_H : Statement .res2_H := rfl
theorem res2_L : Statement .res2_L := rfl
theorem res2_MemHL : Statement .res2_MemHL := rfl
theorem res2_A : Statement .res2_A := rfl
theorem res3_B : Statement .res3_B := rfl
theorem res3_C : Statement .res3_C := rfl
theorem res3_D : Statement .res3_D := rfl
theorem res3_E : Statement .res3_E := rfl
theorem res3_H : Statement .res3_H := rfl
theorem res3_L : Statement .res3_L := rfl
theorem res3_MemHL : Statement .res3_MemHL := rfl
theorem res3_A : Statement .res3_A := rfl
theorem res4_B : Statement .res4_B := rfl
theorem res4_C : Statement .res4_C := rfl
theorem res4_D : Statement .res4_D := rfl
theorem res4_E : Statement .res4_E := rfl
theorem res4_H : Statement .res4_H := rfl
theorem res4_L : Statement .res4_L := rfl
theorem res4_MemHL : Statement .res4_MemHL := rfl
theorem res4_A : Statement .res4_A := rfl
theorem res5_B : Statement .res5_B := rfl
theorem res5_C : Statement .res5_C := rfl
theorem res5_D : Statement .res5_D := rfl
theorem res5_E : Statement .res5_E := rfl
theorem res5_H : Statement .res5_H := rfl
theorem res5_L : Statement .res5_L := rfl
theorem res5_MemHL : Statement .res5_MemHL := rfl
theorem res5_A : Statement .res5_A := rfl
theorem res6_B : Statement .res6_B := rfl
theorem res6_C : Statement .res6_C := rfl
theorem res6_D : Statement .res6_D := rfl
theorem res6_E : Statement .res6_E := rfl
theorem res6_H : Statement .res6_H := rfl
theorem res6_L : Statement .res6_L := rfl
theorem res6_MemHL : Statement .res6_MemHL := rfl
theorem res6_A : Statement .res6_A := rfl
theorem res7_B : Statement .res7_B := rfl
theorem res7_C : Statement .res7_C := rfl
theorem res7_D : Statement .res7_D := rfl
theorem res7_E : Statement .res7_E := rfl
theorem res7_H : Statement .res7_H := rfl
theorem res7_L : Statement .res7_L := rfl
theorem res7_MemHL : Statement .res7_MemHL := rfl
theorem res7_A : Statement .res7_A := rfl
theorem set0_B : Statement .set0_B := rfl
theorem set0_C : Statement .set0_C := rfl
theorem set0_D : Statement .set0_D := rfl
theorem set0_E : Statement .set0_E := rfl
theorem set0_H : Statement .set0_H := rfl
theorem set0_L : Statement .set0_L := rfl
theorem set0_MemHL : Statement .set0_MemHL := rfl
theorem set0_A : Statement .set0_A := rfl
theorem set1_B : Statement .set1_B := rfl
theorem set1_C : Statement .set1_C := rfl
theorem set1_D : Statement .set1_D := rfl
theorem set1_E : Statement .set1_E := rfl
theorem set1_H : Statement .set1_H := rfl
theorem set1_L : Statement .set1_L := rfl
theorem set1_MemHL : Statement .set1_MemHL := rfl
theorem set1_A : Statement .set1_A := rfl
theorem set2_B : Statement .set2_B := rfl
theorem set2_C : Statement .set2_C := rfl
theorem set2_D : Statement .set2_D := rfl
theorem set2_E : Statement .set2_E := rfl
theorem set2_H : Statement .set2_H := rfl
theorem set2_L : Statement .set2_L := rfl
theorem set2_MemHL : Statement .set2_MemHL := rfl
theorem set2_A : Statement .set2_A := rfl
theorem set3_B : Statement .set3_B := rfl
theorem set3_C : Statement .set3_C := rfl
theorem set3_D : Statement .set3_D := rfl
theorem set3_E : Statement .set3_E := rfl
theorem set3_H : Statement .set3_H := rfl
theorem set3_L : Statement .set3_L := rfl
theorem set3_MemHL : Statement .set3_MemHL := rfl
theorem set3_A : Statement .set3_A := rfl
theorem set4_B : Statement .set4_B := rfl
theorem set4_C : Statement .set4_C := rfl
theorem set4_D : Statement .set4_D := rfl
theorem set4_E : Statement .set4_E := rfl
theorem set4_H : Statement .set4_H := rfl
theorem set4_L : Statement .set4_L := rfl
theorem set4_MemHL : Statement .set4_MemHL := rfl
theorem set4_A : Statement .set4_A := rfl
theorem set5_B : Statement .set5_B := rfl
theorem set5_C : Statement .set5_C := rfl
theorem set5_D : Statement .set5_D := rfl
theorem set5_E : Statement .set5_E := rfl
theorem set5_H : Statement .set5_H := rfl
theorem set5_L : Statement .set5_L := rfl
theorem set5_MemHL : Statement .set5_MemHL := rfl
theorem set5_A : Statement .set5_A := rfl
theorem set6_B : Statement .set6_B := rfl
theorem set6_C : Statement .set6_C := rfl
theorem set6_D : Statement .set6_D := rfl
theorem set6_E : Statement .set6_E := rfl
theorem set6_H : Statement .set6_H := rfl
theorem set6_L : Statement .set6_L := rfl
theorem set6_MemHL : Statement .set6_MemHL := rfl
theorem set6_A : Statement .set6_A := rfl
theorem set7_B : Statement .set7_B := rfl
theorem set7_C : Statement .set7_C := rfl
theorem set7_D : Statement .set7_D := rfl
theorem set7_E : Statement .set7_E := rfl
theorem set7_H : Statement .set7_H := rfl
theorem set7_L : Statement .set7_L := rfl
theorem set7_MemHL : Statement .set7_MemHL := rfl
theorem set7_A : Statement .set7_A := rfl

end Sys2Proof.Laws.EncodedLength
end

