-- ==== Sys2Proof/Tests/Slice0.lean ====
section
/-! SUPPORT. Tests: what WellFormed refuses, the decoding of every row's word, single steps with the results that
95_test_vectors.md gives, and a witness of the hypotheses of every statement that has any. -/

namespace Sys2Proof.Machine

/-! ### Helpers -/

/-- The next state of an outcome, if it has one. -/
def nextOf : Result → Option State
  | .next t => some t
  | .fault _ => none
  | .refused _ => none

/-- The start state of the vectors (95_test_vectors.md section 2). -/
def base : State := { State.reset with sp := 0xFFFE, pc := 0x0100 }

/-- These bytes in memory. -/
def holding (cells : List (Word × Byte)) (s : State) : State :=
  { s with mem := cells.foldl (fun m c => memSet m c.1.toNat c.2) s.mem }

/-- These bytes at PC. -/
def placed (bs : List Byte) (s : State) : State :=
  holding (bs.zipIdx.map fun p => (s.pc + BitVec.ofNat 16 p.2, p.1)) s

/-- The state after one step. -/
def after (s : State) : Option State := nextOf (step s)

/-- A bus that rejects every access to `a`. -/
def rejecting (a : Word) : Region :=
  { first := a, last := a, backing := .memory, rejectsReads := true, rejectsWrites := true }

/-- The instruction at the head of each list of bytes that decodes and has no byte left over. -/
def decodeAll (words : List (List Byte)) : List Instr :=
  words.filterMap fun bs =>
    match decode bs with
    | .ok (i, []) => some i
    | .ok (_, _ :: _) => none
    | .error _ => none

/-! ### WellFormed, and the host's two questions -/

/-- R113, R147: the one ill-formed term is refused. -/
theorem test_placeholder_is_ill_formed : Instr.prefixCb.wellFormed = false := by decide

theorem test_nop_is_well_formed : Instr.nop.wellFormed = true := by decide

/-- R115: only bytes can lack. -/
theorem test_no_byte : decode [] = .error .noOpcodeByte := rfl

theorem test_missing_byte : decode [0x01, 0x34] = .error .missingByte := rfl

/-- R114: a CB row's word has its prefix in bits 15 to 8 (log 13). -/
theorem test_table_word_cb : decodeTableWord 16 0xCB37 = some .swapA := by decide

/-- R100: a row without its operand bits reads as operand bytes of zero. -/
theorem test_table_word_short : decodeTableWord 8 0x01 = some (.ldBC_d16 0) := by decide

/-- The instruction placed where the next step fetches is the first one after reset. -/
theorem test_fetch_word_runs : (after (State.reset.withFetchWord 8 0x3C)).map (fun t => (t.a, t.pc)) =
    some (0x01, 0x0001) := by decide

theorem test_fetch_word_runs_cb : (after (State.reset.withFetchWord 16 0xCBFF)).map (fun t => (t.a, t.pc)) =
    some (0x80, 0x0002) := by decide

/-- R500, R501: what reset leaves. -/
theorem test_reset : State.reset.pc = 0x0000 ∧ State.reset.ime = false ∧ State.reset.imePending = false ∧
    State.reset.run = .running ∧ State.reset.cycles = 0 ∧ State.reset.fault = none := by decide

/-! ### Decoding, from the words of opcode_table.json -/

/-- opcode_table.json, primary bytes 0x00 to 0x0F. -/
theorem test_decode_primary_0 :
    decodeAll
       [[0x00], [0x01, 0x34, 0x12], [0x02], [0x03], [0x04], [0x05], [0x06, 0x34], [0x07], [0x08, 0x34, 0x12],
        [0x09], [0x0A], [0x0B], [0x0C], [0x0D], [0x0E, 0x34], [0x0F]] =
      [.nop, .ldBC_d16 0x1234, .ldMemBC_A, .incBC, .incB, .decB, .ldB_d8 0x34, .rlca, .ldMemA16_SP 0x1234,
       .addHL_BC, .ldA_MemBC, .decBC, .incC, .decC, .ldC_d8 0x34, .rrca] := rfl

/-- opcode_table.json, primary bytes 0x10 to 0x1F. -/
theorem test_decode_primary_1 :
    decodeAll
       [[0x10, 0x34], [0x11, 0x34, 0x12], [0x12], [0x13], [0x14], [0x15], [0x16, 0x34], [0x17], [0x18, 0x34],
        [0x19], [0x1A], [0x1B], [0x1C], [0x1D], [0x1E, 0x34], [0x1F]] =
      [.stop 0x34, .ldDE_d16 0x1234, .ldMemDE_A, .incDE, .incD, .decD, .ldD_d8 0x34, .rla, .jrR8 0x34, .addHL_DE,
       .ldA_MemDE, .decDE, .incE, .decE, .ldE_d8 0x34, .rra] := rfl

/-- opcode_table.json, primary bytes 0x20 to 0x2F. -/
theorem test_decode_primary_2 :
    decodeAll
       [[0x20, 0x34], [0x21, 0x34, 0x12], [0x22], [0x23], [0x24], [0x25], [0x26, 0x34], [0x27], [0x28, 0x34],
        [0x29], [0x2A], [0x2B], [0x2C], [0x2D], [0x2E, 0x34], [0x2F]] =
      [.jrNZ_r8 0x34, .ldHL_d16 0x1234, .ldMemHLInc_A, .incHL, .incH, .decH, .ldH_d8 0x34, .daa, .jrZ_r8 0x34,
       .addHL_HL, .ldA_MemHLInc, .decHL, .incL, .decL, .ldL_d8 0x34, .cpl] := rfl

/-- opcode_table.json, primary bytes 0x30 to 0x3F. -/
theorem test_decode_primary_3 :
    decodeAll
       [[0x30, 0x34], [0x31, 0x34, 0x12], [0x32], [0x33], [0x34], [0x35], [0x36, 0x34], [0x37], [0x38, 0x34],
        [0x39], [0x3A], [0x3B], [0x3C], [0x3D], [0x3E, 0x34], [0x3F]] =
      [.jrNC_r8 0x34, .ldSP_d16 0x1234, .ldMemHLDec_A, .incSP, .incMemHL, .decMemHL, .ldMemHL_d8 0x34, .scf,
       .jrC_r8 0x34, .addHL_SP, .ldA_MemHLDec, .decSP, .incA, .decA, .ldA_d8 0x34, .ccf] := rfl

/-- opcode_table.json, primary bytes 0x40 to 0x4F. -/
theorem test_decode_primary_4 :
    decodeAll
       [[0x40], [0x41], [0x42], [0x43], [0x44], [0x45], [0x46], [0x47], [0x48], [0x49], [0x4A], [0x4B], [0x4C],
        [0x4D], [0x4E], [0x4F]] =
      [.ldB_B, .ldB_C, .ldB_D, .ldB_E, .ldB_H, .ldB_L, .ldB_MemHL, .ldB_A, .ldC_B, .ldC_C, .ldC_D, .ldC_E, .ldC_H,
       .ldC_L, .ldC_MemHL, .ldC_A] := rfl

/-- opcode_table.json, primary bytes 0x50 to 0x5F. -/
theorem test_decode_primary_5 :
    decodeAll
       [[0x50], [0x51], [0x52], [0x53], [0x54], [0x55], [0x56], [0x57], [0x58], [0x59], [0x5A], [0x5B], [0x5C],
        [0x5D], [0x5E], [0x5F]] =
      [.ldD_B, .ldD_C, .ldD_D, .ldD_E, .ldD_H, .ldD_L, .ldD_MemHL, .ldD_A, .ldE_B, .ldE_C, .ldE_D, .ldE_E, .ldE_H,
       .ldE_L, .ldE_MemHL, .ldE_A] := rfl

/-- opcode_table.json, primary bytes 0x60 to 0x6F. -/
theorem test_decode_primary_6 :
    decodeAll
       [[0x60], [0x61], [0x62], [0x63], [0x64], [0x65], [0x66], [0x67], [0x68], [0x69], [0x6A], [0x6B], [0x6C],
        [0x6D], [0x6E], [0x6F]] =
      [.ldH_B, .ldH_C, .ldH_D, .ldH_E, .ldH_H, .ldH_L, .ldH_MemHL, .ldH_A, .ldL_B, .ldL_C, .ldL_D, .ldL_E, .ldL_H,
       .ldL_L, .ldL_MemHL, .ldL_A] := rfl

/-- opcode_table.json, primary bytes 0x70 to 0x7F. -/
theorem test_decode_primary_7 :
    decodeAll
       [[0x70], [0x71], [0x72], [0x73], [0x74], [0x75], [0x76], [0x77], [0x78], [0x79], [0x7A], [0x7B], [0x7C],
        [0x7D], [0x7E], [0x7F]] =
      [.ldMemHL_B, .ldMemHL_C, .ldMemHL_D, .ldMemHL_E, .ldMemHL_H, .ldMemHL_L, .halt, .ldMemHL_A, .ldA_B, .ldA_C,
       .ldA_D, .ldA_E, .ldA_H, .ldA_L, .ldA_MemHL, .ldA_A] := rfl

/-- opcode_table.json, primary bytes 0x80 to 0x8F. -/
theorem test_decode_primary_8 :
    decodeAll
       [[0x80], [0x81], [0x82], [0x83], [0x84], [0x85], [0x86], [0x87], [0x88], [0x89], [0x8A], [0x8B], [0x8C],
        [0x8D], [0x8E], [0x8F]] =
      [.addA_B, .addA_C, .addA_D, .addA_E, .addA_H, .addA_L, .addA_MemHL, .addA_A, .adcA_B, .adcA_C, .adcA_D,
       .adcA_E, .adcA_H, .adcA_L, .adcA_MemHL, .adcA_A] := rfl

/-- opcode_table.json, primary bytes 0x90 to 0x9F. -/
theorem test_decode_primary_9 :
    decodeAll
       [[0x90], [0x91], [0x92], [0x93], [0x94], [0x95], [0x96], [0x97], [0x98], [0x99], [0x9A], [0x9B], [0x9C],
        [0x9D], [0x9E], [0x9F]] =
      [.subB, .subC, .subD, .subE, .subH, .subL, .subMemHL, .subA, .sbcA_B, .sbcA_C, .sbcA_D, .sbcA_E, .sbcA_H,
       .sbcA_L, .sbcA_MemHL, .sbcA_A] := rfl

/-- opcode_table.json, primary bytes 0xA0 to 0xAF. -/
theorem test_decode_primary_A :
    decodeAll
       [[0xA0], [0xA1], [0xA2], [0xA3], [0xA4], [0xA5], [0xA6], [0xA7], [0xA8], [0xA9], [0xAA], [0xAB], [0xAC],
        [0xAD], [0xAE], [0xAF]] =
      [.andB, .andC, .andD, .andE, .andH, .andL, .andMemHL, .andA, .xorB, .xorC, .xorD, .xorE, .xorH, .xorL,
       .xorMemHL, .xorA] := rfl

/-- opcode_table.json, primary bytes 0xB0 to 0xBF. -/
theorem test_decode_primary_B :
    decodeAll
       [[0xB0], [0xB1], [0xB2], [0xB3], [0xB4], [0xB5], [0xB6], [0xB7], [0xB8], [0xB9], [0xBA], [0xBB], [0xBC],
        [0xBD], [0xBE], [0xBF]] =
      [.orB, .orC, .orD, .orE, .orH, .orL, .orMemHL, .orA, .cpB, .cpC, .cpD, .cpE, .cpH, .cpL, .cpMemHL, .cpA] := rfl

/-- opcode_table.json, primary bytes 0xC0 to 0xCF, the prefix with a second byte. -/
theorem test_decode_primary_C :
    decodeAll
       [[0xC0], [0xC1], [0xC2, 0x34, 0x12], [0xC3, 0x34, 0x12], [0xC4, 0x34, 0x12], [0xC5], [0xC6, 0x34], [0xC7],
        [0xC8], [0xC9], [0xCA, 0x34, 0x12], [0xCB, 0x40], [0xCC, 0x34, 0x12], [0xCD, 0x34, 0x12], [0xCE, 0x34],
        [0xCF]] =
      [.retNZ, .popBC, .jpNZ_a16 0x1234, .jpA16 0x1234, .callNZ_a16 0x1234, .pushBC, .addA_d8 0x34, .rst00, .retZ,
       .ret, .jpZ_a16 0x1234, .bit0_B, .callZ_a16 0x1234, .callA16 0x1234, .adcA_d8 0x34, .rst08] := rfl

/-- opcode_table.json, primary bytes 0xD0 to 0xDF. -/
theorem test_decode_primary_D :
    decodeAll
       [[0xD0], [0xD1], [0xD2, 0x34, 0x12], [0xD3], [0xD4, 0x34, 0x12], [0xD5], [0xD6, 0x34], [0xD7], [0xD8],
        [0xD9], [0xDA, 0x34, 0x12], [0xDB], [0xDC, 0x34, 0x12], [0xDD], [0xDE, 0x34], [0xDF]] =
      [.retNC, .popDE, .jpNC_a16 0x1234, .illegalD3, .callNC_a16 0x1234, .pushDE, .subD8 0x34, .rst10, .retC, .reti,
       .jpC_a16 0x1234, .illegalDB, .callC_a16 0x1234, .illegalDD, .sbcA_d8 0x34, .rst18] := rfl

/-- opcode_table.json, primary bytes 0xE0 to 0xEF. -/
theorem test_decode_primary_E :
    decodeAll
       [[0xE0, 0x34], [0xE1], [0xE2], [0xE3], [0xE4], [0xE5], [0xE6, 0x34], [0xE7], [0xE8, 0x34], [0xE9],
        [0xEA, 0x34, 0x12], [0xEB], [0xEC], [0xED], [0xEE, 0x34], [0xEF]] =
      [.ldhMemA8_A 0x34, .popHL, .ldMemC_A, .illegalE3, .illegalE4, .pushHL, .andD8 0x34, .rst20, .addSP_r8 0x34,
       .jpHL, .ldMemA16_A 0x1234, .illegalEB, .illegalEC, .illegalED, .xorD8 0x34, .rst28] := rfl

/-- opcode_table.json, primary bytes 0xF0 to 0xFF. -/
theorem test_decode_primary_F :
    decodeAll
       [[0xF0, 0x34], [0xF1], [0xF2], [0xF3], [0xF4], [0xF5], [0xF6, 0x34], [0xF7], [0xF8, 0x34], [0xF9],
        [0xFA, 0x34, 0x12], [0xFB], [0xFC], [0xFD], [0xFE, 0x34], [0xFF]] =
      [.ldhA_MemA8 0x34, .popAF, .ldA_MemC, .di, .illegalF4, .pushAF, .orD8 0x34, .rst30, .ldHL_SPr8 0x34, .ldSP_HL,
       .ldA_MemA16 0x1234, .ei, .illegalFC, .illegalFD, .cpD8 0x34, .rst38] := rfl

/-- opcode_table.json, CB-prefixed bytes 0x00 to 0x0F. -/
theorem test_decode_cb_0 :
    decodeAll
       [[0xCB, 0x00], [0xCB, 0x01], [0xCB, 0x02], [0xCB, 0x03], [0xCB, 0x04], [0xCB, 0x05], [0xCB, 0x06],
        [0xCB, 0x07], [0xCB, 0x08], [0xCB, 0x09], [0xCB, 0x0A], [0xCB, 0x0B], [0xCB, 0x0C], [0xCB, 0x0D],
        [0xCB, 0x0E], [0xCB, 0x0F]] =
      [.rlcB, .rlcC, .rlcD, .rlcE, .rlcH, .rlcL, .rlcMemHL, .rlcA, .rrcB, .rrcC, .rrcD, .rrcE, .rrcH, .rrcL,
       .rrcMemHL, .rrcA] := rfl

/-- opcode_table.json, CB-prefixed bytes 0x10 to 0x1F. -/
theorem test_decode_cb_1 :
    decodeAll
       [[0xCB, 0x10], [0xCB, 0x11], [0xCB, 0x12], [0xCB, 0x13], [0xCB, 0x14], [0xCB, 0x15], [0xCB, 0x16],
        [0xCB, 0x17], [0xCB, 0x18], [0xCB, 0x19], [0xCB, 0x1A], [0xCB, 0x1B], [0xCB, 0x1C], [0xCB, 0x1D],
        [0xCB, 0x1E], [0xCB, 0x1F]] =
      [.rlB, .rlC, .rlD, .rlE, .rlH, .rlL, .rlMemHL, .rlA, .rrB, .rrC, .rrD, .rrE, .rrH, .rrL, .rrMemHL, .rrA] := rfl

/-- opcode_table.json, CB-prefixed bytes 0x20 to 0x2F. -/
theorem test_decode_cb_2 :
    decodeAll
       [[0xCB, 0x20], [0xCB, 0x21], [0xCB, 0x22], [0xCB, 0x23], [0xCB, 0x24], [0xCB, 0x25], [0xCB, 0x26],
        [0xCB, 0x27], [0xCB, 0x28], [0xCB, 0x29], [0xCB, 0x2A], [0xCB, 0x2B], [0xCB, 0x2C], [0xCB, 0x2D],
        [0xCB, 0x2E], [0xCB, 0x2F]] =
      [.slaB, .slaC, .slaD, .slaE, .slaH, .slaL, .slaMemHL, .slaA, .sraB, .sraC, .sraD, .sraE, .sraH, .sraL,
       .sraMemHL, .sraA] := rfl

/-- opcode_table.json, CB-prefixed bytes 0x30 to 0x3F. -/
theorem test_decode_cb_3 :
    decodeAll
       [[0xCB, 0x30], [0xCB, 0x31], [0xCB, 0x32], [0xCB, 0x33], [0xCB, 0x34], [0xCB, 0x35], [0xCB, 0x36],
        [0xCB, 0x37], [0xCB, 0x38], [0xCB, 0x39], [0xCB, 0x3A], [0xCB, 0x3B], [0xCB, 0x3C], [0xCB, 0x3D],
        [0xCB, 0x3E], [0xCB, 0x3F]] =
      [.swapB, .swapC, .swapD, .swapE, .swapH, .swapL, .swapMemHL, .swapA, .srlB, .srlC, .srlD, .srlE, .srlH, .srlL,
       .srlMemHL, .srlA] := rfl

/-- opcode_table.json, CB-prefixed bytes 0x40 to 0x4F. -/
theorem test_decode_cb_4 :
    decodeAll
       [[0xCB, 0x40], [0xCB, 0x41], [0xCB, 0x42], [0xCB, 0x43], [0xCB, 0x44], [0xCB, 0x45], [0xCB, 0x46],
        [0xCB, 0x47], [0xCB, 0x48], [0xCB, 0x49], [0xCB, 0x4A], [0xCB, 0x4B], [0xCB, 0x4C], [0xCB, 0x4D],
        [0xCB, 0x4E], [0xCB, 0x4F]] =
      [.bit0_B, .bit0_C, .bit0_D, .bit0_E, .bit0_H, .bit0_L, .bit0_MemHL, .bit0_A, .bit1_B, .bit1_C, .bit1_D,
       .bit1_E, .bit1_H, .bit1_L, .bit1_MemHL, .bit1_A] := rfl

/-- opcode_table.json, CB-prefixed bytes 0x50 to 0x5F. -/
theorem test_decode_cb_5 :
    decodeAll
       [[0xCB, 0x50], [0xCB, 0x51], [0xCB, 0x52], [0xCB, 0x53], [0xCB, 0x54], [0xCB, 0x55], [0xCB, 0x56],
        [0xCB, 0x57], [0xCB, 0x58], [0xCB, 0x59], [0xCB, 0x5A], [0xCB, 0x5B], [0xCB, 0x5C], [0xCB, 0x5D],
        [0xCB, 0x5E], [0xCB, 0x5F]] =
      [.bit2_B, .bit2_C, .bit2_D, .bit2_E, .bit2_H, .bit2_L, .bit2_MemHL, .bit2_A, .bit3_B, .bit3_C, .bit3_D,
       .bit3_E, .bit3_H, .bit3_L, .bit3_MemHL, .bit3_A] := rfl

/-- opcode_table.json, CB-prefixed bytes 0x60 to 0x6F. -/
theorem test_decode_cb_6 :
    decodeAll
       [[0xCB, 0x60], [0xCB, 0x61], [0xCB, 0x62], [0xCB, 0x63], [0xCB, 0x64], [0xCB, 0x65], [0xCB, 0x66],
        [0xCB, 0x67], [0xCB, 0x68], [0xCB, 0x69], [0xCB, 0x6A], [0xCB, 0x6B], [0xCB, 0x6C], [0xCB, 0x6D],
        [0xCB, 0x6E], [0xCB, 0x6F]] =
      [.bit4_B, .bit4_C, .bit4_D, .bit4_E, .bit4_H, .bit4_L, .bit4_MemHL, .bit4_A, .bit5_B, .bit5_C, .bit5_D,
       .bit5_E, .bit5_H, .bit5_L, .bit5_MemHL, .bit5_A] := rfl

/-- opcode_table.json, CB-prefixed bytes 0x70 to 0x7F. -/
theorem test_decode_cb_7 :
    decodeAll
       [[0xCB, 0x70], [0xCB, 0x71], [0xCB, 0x72], [0xCB, 0x73], [0xCB, 0x74], [0xCB, 0x75], [0xCB, 0x76],
        [0xCB, 0x77], [0xCB, 0x78], [0xCB, 0x79], [0xCB, 0x7A], [0xCB, 0x7B], [0xCB, 0x7C], [0xCB, 0x7D],
        [0xCB, 0x7E], [0xCB, 0x7F]] =
      [.bit6_B, .bit6_C, .bit6_D, .bit6_E, .bit6_H, .bit6_L, .bit6_MemHL, .bit6_A, .bit7_B, .bit7_C, .bit7_D,
       .bit7_E, .bit7_H, .bit7_L, .bit7_MemHL, .bit7_A] := rfl

/-- opcode_table.json, CB-prefixed bytes 0x80 to 0x8F. -/
theorem test_decode_cb_8 :
    decodeAll
       [[0xCB, 0x80], [0xCB, 0x81], [0xCB, 0x82], [0xCB, 0x83], [0xCB, 0x84], [0xCB, 0x85], [0xCB, 0x86],
        [0xCB, 0x87], [0xCB, 0x88], [0xCB, 0x89], [0xCB, 0x8A], [0xCB, 0x8B], [0xCB, 0x8C], [0xCB, 0x8D],
        [0xCB, 0x8E], [0xCB, 0x8F]] =
      [.res0_B, .res0_C, .res0_D, .res0_E, .res0_H, .res0_L, .res0_MemHL, .res0_A, .res1_B, .res1_C, .res1_D,
       .res1_E, .res1_H, .res1_L, .res1_MemHL, .res1_A] := rfl

/-- opcode_table.json, CB-prefixed bytes 0x90 to 0x9F. -/
theorem test_decode_cb_9 :
    decodeAll
       [[0xCB, 0x90], [0xCB, 0x91], [0xCB, 0x92], [0xCB, 0x93], [0xCB, 0x94], [0xCB, 0x95], [0xCB, 0x96],
        [0xCB, 0x97], [0xCB, 0x98], [0xCB, 0x99], [0xCB, 0x9A], [0xCB, 0x9B], [0xCB, 0x9C], [0xCB, 0x9D],
        [0xCB, 0x9E], [0xCB, 0x9F]] =
      [.res2_B, .res2_C, .res2_D, .res2_E, .res2_H, .res2_L, .res2_MemHL, .res2_A, .res3_B, .res3_C, .res3_D,
       .res3_E, .res3_H, .res3_L, .res3_MemHL, .res3_A] := rfl

/-- opcode_table.json, CB-prefixed bytes 0xA0 to 0xAF. -/
theorem test_decode_cb_A :
    decodeAll
       [[0xCB, 0xA0], [0xCB, 0xA1], [0xCB, 0xA2], [0xCB, 0xA3], [0xCB, 0xA4], [0xCB, 0xA5], [0xCB, 0xA6],
        [0xCB, 0xA7], [0xCB, 0xA8], [0xCB, 0xA9], [0xCB, 0xAA], [0xCB, 0xAB], [0xCB, 0xAC], [0xCB, 0xAD],
        [0xCB, 0xAE], [0xCB, 0xAF]] =
      [.res4_B, .res4_C, .res4_D, .res4_E, .res4_H, .res4_L, .res4_MemHL, .res4_A, .res5_B, .res5_C, .res5_D,
       .res5_E, .res5_H, .res5_L, .res5_MemHL, .res5_A] := rfl

/-- opcode_table.json, CB-prefixed bytes 0xB0 to 0xBF. -/
theorem test_decode_cb_B :
    decodeAll
       [[0xCB, 0xB0], [0xCB, 0xB1], [0xCB, 0xB2], [0xCB, 0xB3], [0xCB, 0xB4], [0xCB, 0xB5], [0xCB, 0xB6],
        [0xCB, 0xB7], [0xCB, 0xB8], [0xCB, 0xB9], [0xCB, 0xBA], [0xCB, 0xBB], [0xCB, 0xBC], [0xCB, 0xBD],
        [0xCB, 0xBE], [0xCB, 0xBF]] =
      [.res6_B, .res6_C, .res6_D, .res6_E, .res6_H, .res6_L, .res6_MemHL, .res6_A, .res7_B, .res7_C, .res7_D,
       .res7_E, .res7_H, .res7_L, .res7_MemHL, .res7_A] := rfl

/-- opcode_table.json, CB-prefixed bytes 0xC0 to 0xCF. -/
theorem test_decode_cb_C :
    decodeAll
       [[0xCB, 0xC0], [0xCB, 0xC1], [0xCB, 0xC2], [0xCB, 0xC3], [0xCB, 0xC4], [0xCB, 0xC5], [0xCB, 0xC6],
        [0xCB, 0xC7], [0xCB, 0xC8], [0xCB, 0xC9], [0xCB, 0xCA], [0xCB, 0xCB], [0xCB, 0xCC], [0xCB, 0xCD],
        [0xCB, 0xCE], [0xCB, 0xCF]] =
      [.set0_B, .set0_C, .set0_D, .set0_E, .set0_H, .set0_L, .set0_MemHL, .set0_A, .set1_B, .set1_C, .set1_D,
       .set1_E, .set1_H, .set1_L, .set1_MemHL, .set1_A] := rfl

/-- opcode_table.json, CB-prefixed bytes 0xD0 to 0xDF. -/
theorem test_decode_cb_D :
    decodeAll
       [[0xCB, 0xD0], [0xCB, 0xD1], [0xCB, 0xD2], [0xCB, 0xD3], [0xCB, 0xD4], [0xCB, 0xD5], [0xCB, 0xD6],
        [0xCB, 0xD7], [0xCB, 0xD8], [0xCB, 0xD9], [0xCB, 0xDA], [0xCB, 0xDB], [0xCB, 0xDC], [0xCB, 0xDD],
        [0xCB, 0xDE], [0xCB, 0xDF]] =
      [.set2_B, .set2_C, .set2_D, .set2_E, .set2_H, .set2_L, .set2_MemHL, .set2_A, .set3_B, .set3_C, .set3_D,
       .set3_E, .set3_H, .set3_L, .set3_MemHL, .set3_A] := rfl

/-- opcode_table.json, CB-prefixed bytes 0xE0 to 0xEF. -/
theorem test_decode_cb_E :
    decodeAll
       [[0xCB, 0xE0], [0xCB, 0xE1], [0xCB, 0xE2], [0xCB, 0xE3], [0xCB, 0xE4], [0xCB, 0xE5], [0xCB, 0xE6],
        [0xCB, 0xE7], [0xCB, 0xE8], [0xCB, 0xE9], [0xCB, 0xEA], [0xCB, 0xEB], [0xCB, 0xEC], [0xCB, 0xED],
        [0xCB, 0xEE], [0xCB, 0xEF]] =
      [.set4_B, .set4_C, .set4_D, .set4_E, .set4_H, .set4_L, .set4_MemHL, .set4_A, .set5_B, .set5_C, .set5_D,
       .set5_E, .set5_H, .set5_L, .set5_MemHL, .set5_A] := rfl

/-- opcode_table.json, CB-prefixed bytes 0xF0 to 0xFF. -/
theorem test_decode_cb_F :
    decodeAll
       [[0xCB, 0xF0], [0xCB, 0xF1], [0xCB, 0xF2], [0xCB, 0xF3], [0xCB, 0xF4], [0xCB, 0xF5], [0xCB, 0xF6],
        [0xCB, 0xF7], [0xCB, 0xF8], [0xCB, 0xF9], [0xCB, 0xFA], [0xCB, 0xFB], [0xCB, 0xFC], [0xCB, 0xFD],
        [0xCB, 0xFE], [0xCB, 0xFF]] =
      [.set6_B, .set6_C, .set6_D, .set6_E, .set6_H, .set6_L, .set6_MemHL, .set6_A, .set7_B, .set7_C, .set7_D,
       .set7_E, .set7_H, .set7_L, .set7_MemHL, .set7_A] := rfl

/-! ### Single steps, from the vectors of 95_test_vectors.md -/

/-- 95_test_vectors.md V1.1 (R200). -/
theorem test_v1_1 :
    (after (placed [0x78] { base with b := 0x5A })).map (fun t => (t.a, t.pc, t.cycles)) =
      some (0x5A, 0x0101, 4) := by decide

/-- 95_test_vectors.md V1.3 (R201). -/
theorem test_v1_3 :
    (after (placed [0x0E, 0x9C] base)).map (fun t => (t.c, t.pc, t.cycles)) =
      some (0x9C, 0x0102, 8) := by decide

/-- 95_test_vectors.md V1.4 (R202). -/
theorem test_v1_4 :
    (after (placed [0x66] (holding [(0xC010, 0xAB)] { base with h := 0xC0, l := 0x10 }))).map (fun t =>
      (t.h, t.pc, t.cycles)) =
      some (0xAB, 0x0101, 8) := by decide

/-- 95_test_vectors.md V1.5 (R203). -/
theorem test_v1_5 :
    (after (placed [0x75] { base with h := 0xC0, l := 0x10 })).map (fun t => (t.pc, t.cycles, t.byteAt 0xC010)) =
      some (0x0101, 8, 0x10) := by decide

/-- 95_test_vectors.md V1.6 (R204). -/
theorem test_v1_6 :
    (after (placed [0x36, 0xE7] { base with h := 0xD0, l := 0x00 })).map (fun t =>
      (t.pc, t.cycles, t.byteAt 0xD000)) =
      some (0x0102, 12, 0xE7) := by decide

/-- 95_test_vectors.md V1.7 (R205). -/
theorem test_v1_7 :
    (after (placed [0x0A] (holding [(0xC123, 0x77)] { base with b := 0xC1, c := 0x23 }))).map (fun t =>
      (t.a, t.pc, t.cycles)) =
      some (0x77, 0x0101, 8) := by decide

/-- 95_test_vectors.md V1.8 (R208). -/
theorem test_v1_8 :
    (after (placed [0x12] { base with a := 0x11, d := 0xC2, e := 0x00 })).map (fun t =>
      (t.pc, t.cycles, t.byteAt 0xC200)) =
      some (0x0101, 8, 0x11) := by decide

/-- 95_test_vectors.md V1.9 (R209). -/
theorem test_v1_9 :
    (after (placed [0xFA, 0x34, 0xC2] (holding [(0xC234, 0x5E)] base))).map (fun t => (t.a, t.pc, t.cycles)) =
      some (0x5E, 0x0103, 16) := by decide

/-- 95_test_vectors.md V1.10 (R210). -/
theorem test_v1_10 :
    (after (placed [0xEA, 0xFF, 0xFF] { base with a := 0x99 })).map (fun t => (t.pc, t.cycles, t.byteAt 0xFFFF)) =
      some (0x0103, 16, 0x99) := by decide

/-- 95_test_vectors.md V1.11 (R211). -/
theorem test_v1_11 :
    (after (placed [0xF0, 0x44] (holding [(0xFF44, 0x90)] base))).map (fun t => (t.a, t.pc, t.cycles)) =
      some (0x90, 0x0102, 12) := by decide

/-- 95_test_vectors.md V1.12 (R212). -/
theorem test_v1_12 :
    (after (placed [0xE0, 0xFF] { base with a := 0x80 })).map (fun t => (t.pc, t.cycles, t.byteAt 0xFFFF)) =
      some (0x0102, 12, 0x80) := by decide

/-- 95_test_vectors.md V1.13 (R213). -/
theorem test_v1_13 :
    (after (placed [0xF2] (holding [(0xFF80, 0x3C)] { base with c := 0x80 }))).map (fun t => (t.a, t.pc, t.cycles)) =
      some (0x3C, 0x0101, 8) := by decide

/-- 95_test_vectors.md V1.14 (R214). -/
theorem test_v1_14 :
    (after (placed [0xE2] { base with a := 0x01, c := 0x0F })).map (fun t => (t.pc, t.cycles, t.byteAt 0xFF0F)) =
      some (0x0101, 8, 0x01) := by decide

/-- 95_test_vectors.md V1.15 (R215). -/
theorem test_v1_15 :
    (after (placed [0x2A] (holding [(0xFFFF, 0x12)] { base with h := 0xFF, l := 0xFF }))).map (fun t =>
      (t.a, t.h, t.l, t.pc, t.cycles)) =
      some (0x12, 0x00, 0x00, 0x0101, 8) := by decide

/-- 95_test_vectors.md V1.16 (R216). -/
theorem test_v1_16 :
    (after (placed [0x3A] { base with h := 0x00, l := 0x00 })).map (fun t => (t.h, t.l, t.pc, t.cycles)) =
      some (0xFF, 0xFF, 0x0101, 8) := by decide

/-- 95_test_vectors.md V1.17 (R217). -/
theorem test_v1_17 :
    (after (placed [0x22] { base with a := 0x44, h := 0xC0, l := 0xFF })).map (fun t =>
      (t.h, t.l, t.pc, t.cycles, t.byteAt 0xC0FF)) =
      some (0xC1, 0x00, 0x0101, 8, 0x44) := by decide

/-- 95_test_vectors.md V1.18 (R218). -/
theorem test_v1_18 :
    (after (placed [0x32] { base with a := 0x55, h := 0xC1, l := 0x00 })).map (fun t =>
      (t.h, t.l, t.pc, t.cycles, t.byteAt 0xC100)) =
      some (0xC0, 0xFF, 0x0101, 8, 0x55) := by decide

/-- 95_test_vectors.md V2.1 (R230). -/
theorem test_v2_1 :
    (after (placed [0x01, 0x34, 0x12] base)).map (fun t => (t.b, t.c, t.pc, t.cycles)) =
      some (0x12, 0x34, 0x0103, 12) := by decide

/-- 95_test_vectors.md V2.3 (R231). -/
theorem test_v2_3 :
    (after (placed [0x08, 0x00, 0xC0] { base with sp := 0xABCD })).map (fun t =>
      (t.pc, t.cycles, t.byteAt 0xC000, t.byteAt 0xC001)) =
      some (0x0103, 20, 0xCD, 0xAB) := by decide

/-- 95_test_vectors.md V2.5 (R232). -/
theorem test_v2_5 :
    (after (placed [0xF9] { base with h := 0xC5, l := 0xC5 })).map (fun t => (t.sp, t.pc, t.cycles)) =
      some (0xC5C5, 0x0101, 8) := by decide

/-- 95_test_vectors.md V2.6 (R233). -/
theorem test_v2_6 :
    (after (placed [0xC5] { base with b := 0x12, c := 0x34 })).map (fun t =>
      (t.sp, t.pc, t.cycles, t.byteAt 0xFFFD, t.byteAt 0xFFFC)) =
      some (0xFFFC, 0x0101, 16, 0x12, 0x34) := by decide

/-- 95_test_vectors.md V2.8 (R234). -/
theorem test_v2_8 :
    (after (placed [0xD1] (holding [(0xDFFC, 0x78), (0xDFFD, 0x56)] { base with sp := 0xDFFC }))).map (fun t =>
      (t.d, t.e, t.sp, t.pc, t.cycles)) =
      some (0x56, 0x78, 0xDFFE, 0x0101, 12) := by decide

/-- 95_test_vectors.md V2.9 (R235). -/
theorem test_v2_9 :
    (after (placed [0xF1] (holding [(0xDFFC, 0xFF), (0xDFFD, 0x12)] { base with sp := 0xDFFC }))).map (fun t =>
      (t.a, t.f, t.sp, t.pc, t.cycles)) =
      some (0x12, 0xF0, 0xDFFE, 0x0101, 12) := by decide

/-- 95_test_vectors.md V2.12 (R236). -/
theorem test_v2_12 :
    (after (placed [0xF8, 0x02] { base with sp := 0xFFF8 })).map (fun t => (t.h, t.l, t.pc, t.cycles)) =
      some (0xFF, 0xFA, 0x0102, 12) := by decide

/-- 95_test_vectors.md V3.1 (R261). -/
theorem test_v3_1 :
    (after (placed [0x80] { base with a := 0x3A, b := 0xC6 })).map (fun t => (t.a, t.f, t.pc, t.cycles)) =
      some (0x00, 0xB0, 0x0101, 4) := by decide

/-- 95_test_vectors.md V3.4 (R262). -/
theorem test_v3_4 :
    (after (placed [0x86] (holding [(0xC000, 0x80)] { base with a := 0x80, h := 0xC0, l := 0x00 }))).map (fun t =>
      (t.a, t.f, t.pc, t.cycles)) =
      some (0x00, 0x90, 0x0101, 8) := by decide

/-- 95_test_vectors.md V3.5 (R263). -/
theorem test_v3_5 :
    (after (placed [0xC6, 0x34] { base with a := 0x12 })).map (fun t => (t.a, t.pc, t.cycles)) =
      some (0x46, 0x0102, 8) := by decide

/-- 95_test_vectors.md V3.6 (R264). -/
theorem test_v3_6 :
    (after (placed [0x8B] { base with a := 0xE1, e := 0x0F, f := 0x10 })).map (fun t => (t.a, t.f, t.pc, t.cycles)) =
      some (0xF1, 0x20, 0x0101, 4) := by decide

/-- 95_test_vectors.md V3.7 (R266). -/
theorem test_v3_7 :
    (after (placed [0xCE, 0x00] { base with a := 0xFF, f := 0x10 })).map (fun t => (t.a, t.f, t.pc, t.cycles)) =
      some (0x00, 0xB0, 0x0102, 8) := by decide

/-- 95_test_vectors.md V3.9 (R267). -/
theorem test_v3_9 :
    (after (placed [0x93] { base with a := 0x3E, e := 0x3E })).map (fun t => (t.a, t.f, t.pc, t.cycles)) =
      some (0x00, 0xC0, 0x0101, 4) := by decide

/-- 95_test_vectors.md V3.11 (R269). -/
theorem test_v3_11 :
    (after (placed [0xD6, 0x40] { base with a := 0x3E })).map (fun t => (t.a, t.f, t.pc, t.cycles)) =
      some (0xFE, 0x50, 0x0102, 8) := by decide

/-- 95_test_vectors.md V3.13 (R270). -/
theorem test_v3_13 :
    (after (placed [0x9C] { base with a := 0x3B, h := 0x2A, f := 0x10 })).map (fun t => (t.a, t.f, t.pc, t.cycles)) =
      some (0x10, 0x40, 0x0101, 4) := by decide

/-- 95_test_vectors.md V3.14 (R272). -/
theorem test_v3_14 :
    (after (placed [0xDE, 0x00] { base with a := 0x00, f := 0x10 })).map (fun t => (t.a, t.f, t.pc, t.cycles)) =
      some (0xFF, 0x70, 0x0102, 8) := by decide

/-- 95_test_vectors.md V3.16 (R273). -/
theorem test_v3_16 :
    (after (placed [0xA5] { base with a := 0x5A, l := 0x3F })).map (fun t => (t.a, t.f, t.pc, t.cycles)) =
      some (0x1A, 0x20, 0x0101, 4) := by decide

/-- 95_test_vectors.md V3.17 (R275). -/
theorem test_v3_17 :
    (after (placed [0xE6, 0x00] { base with a := 0x5A })).map (fun t => (t.a, t.f, t.pc, t.cycles)) =
      some (0x00, 0xA0, 0x0102, 8) := by decide

/-- 95_test_vectors.md V3.18 (R276). -/
theorem test_v3_18 :
    (after (placed [0xAF] { base with a := 0xFF })).map (fun t => (t.a, t.f, t.pc, t.cycles)) =
      some (0x00, 0x80, 0x0101, 4) := by decide

/-- 95_test_vectors.md V3.19 (R278). -/
theorem test_v3_19 :
    (after (placed [0xEE, 0x0F] { base with a := 0xFF })).map (fun t => (t.a, t.pc, t.cycles)) =
      some (0xF0, 0x0102, 8) := by decide

/-- 95_test_vectors.md V3.20 (R279). -/
theorem test_v3_20 :
    (after (placed [0xB7] { base with a := 0x00, f := 0xF0 })).map (fun t => (t.f, t.pc, t.cycles)) =
      some (0x80, 0x0101, 4) := by decide

/-- 95_test_vectors.md V3.21 (R281). -/
theorem test_v3_21 :
    (after (placed [0xF6, 0x03] { base with a := 0x5A })).map (fun t => (t.a, t.pc, t.cycles)) =
      some (0x5B, 0x0102, 8) := by decide

/-- 95_test_vectors.md V3.22 (R282). -/
theorem test_v3_22 :
    (after (placed [0xB8] { base with a := 0x3C, b := 0x2F })).map (fun t => (t.f, t.pc, t.cycles)) =
      some (0x60, 0x0101, 4) := by decide

/-- 95_test_vectors.md V3.23 (R284). -/
theorem test_v3_23 :
    (after (placed [0xFE, 0x3C] { base with a := 0x3C })).map (fun t => (t.f, t.pc, t.cycles)) =
      some (0xC0, 0x0102, 8) := by decide

/-- 95_test_vectors.md V3.25 (R283). -/
theorem test_v3_25 :
    (after (placed [0xBE] (holding [(0xC000, 0x3C)] { base with a := 0x3C, h := 0xC0, l := 0x00 }))).map (fun t =>
      (t.f, t.pc, t.cycles)) =
      some (0xC0, 0x0101, 8) := by decide

/-- 95_test_vectors.md V3.26 (R285). -/
theorem test_v3_26 :
    (after (placed [0x04] { base with b := 0xFF, f := 0x10 })).map (fun t => (t.f, t.b, t.pc, t.cycles)) =
      some (0xB0, 0x00, 0x0101, 4) := by decide

/-- 95_test_vectors.md V3.29 (R286). -/
theorem test_v3_29 :
    (after (placed [0x34] (holding [(0xC000, 0x7F)] { base with h := 0xC0, l := 0x00 }))).map (fun t =>
      (t.f, t.pc, t.cycles, t.byteAt 0xC000)) =
      some (0x20, 0x0101, 12, 0x80) := by decide

/-- 95_test_vectors.md V3.30 (R287). -/
theorem test_v3_30 :
    (after (placed [0x15] { base with d := 0x01 })).map (fun t => (t.f, t.d, t.pc, t.cycles)) =
      some (0xC0, 0x00, 0x0101, 4) := by decide

/-- 95_test_vectors.md V3.33 (R288). -/
theorem test_v3_33 :
    (after (placed [0x35] (holding [(0xC000, 0x00)] { base with h := 0xC0, l := 0x00 }))).map (fun t =>
      (t.f, t.pc, t.cycles, t.byteAt 0xC000)) =
      some (0x60, 0x0101, 12, 0xFF) := by decide

/-- 95_test_vectors.md V3.38 (R289). -/
theorem test_v3_38 :
    (after (placed [0x27] { base with a := 0x9A, f := 0x00 })).map (fun t => (t.a, t.f, t.pc, t.cycles)) =
      some (0x00, 0x90, 0x0101, 4) := by decide

/-- 95_test_vectors.md V3.39 (R290). -/
theorem test_v3_39 :
    (after (placed [0x2F] { base with a := 0x35 })).map (fun t => (t.a, t.f, t.pc, t.cycles)) =
      some (0xCA, 0x60, 0x0101, 4) := by decide

/-- 95_test_vectors.md V3.40 (R291). -/
theorem test_v3_40 :
    (after (placed [0x37] { base with f := 0xE0 })).map (fun t => (t.f, t.pc, t.cycles)) =
      some (0x90, 0x0101, 4) := by decide

/-- 95_test_vectors.md V3.41 (R292). -/
theorem test_v3_41 :
    (after (placed [0x3F] { base with f := 0xF0 })).map (fun t => (t.f, t.pc, t.cycles)) =
      some (0x80, 0x0101, 4) := by decide

/-- 95_test_vectors.md V4.1 (R310). -/
theorem test_v4_1 :
    (after (placed [0x09] { base with h := 0x8A, l := 0x23, b := 0x06, c := 0x05 })).map (fun t =>
      (t.f, t.h, t.l, t.pc, t.cycles)) =
      some (0x20, 0x90, 0x28, 0x0101, 8) := by decide

/-- 95_test_vectors.md V4.5 (R311). -/
theorem test_v4_5 :
    (after (placed [0x13] { base with d := 0xFF, e := 0xFF, f := 0xF0 })).map (fun t => (t.d, t.e, t.pc, t.cycles)) =
      some (0x00, 0x00, 0x0101, 8) := by decide

/-- 95_test_vectors.md V4.7 (R312). -/
theorem test_v4_7 :
    (after (placed [0x0B] { base with b := 0x00, c := 0x00 })).map (fun t => (t.b, t.c, t.pc, t.cycles)) =
      some (0xFF, 0xFF, 0x0101, 8) := by decide

/-- 95_test_vectors.md V4.9 (R313). -/
theorem test_v4_9 :
    (after (placed [0xE8, 0x02] { base with sp := 0xFFF8 })).map (fun t => (t.sp, t.pc, t.cycles)) =
      some (0xFFFA, 0x0102, 16) := by decide

/-- 95_test_vectors.md V5.1 (R330). -/
theorem test_v5_1 :
    (after (placed [0x07] { base with a := 0x85 })).map (fun t => (t.a, t.f, t.pc, t.cycles)) =
      some (0x0B, 0x10, 0x0101, 4) := by decide

/-- 95_test_vectors.md V5.3 (R331). -/
theorem test_v5_3 :
    (after (placed [0x0F] { base with a := 0x01 })).map (fun t => (t.a, t.f, t.pc, t.cycles)) =
      some (0x80, 0x10, 0x0101, 4) := by decide

/-- 95_test_vectors.md V5.4 (R332). -/
theorem test_v5_4 :
    (after (placed [0x17] { base with a := 0x95, f := 0x10 })).map (fun t => (t.a, t.pc, t.cycles)) =
      some (0x2B, 0x0101, 4) := by decide

/-- 95_test_vectors.md V5.5 (R333). -/
theorem test_v5_5 :
    (after (placed [0x1F] { base with a := 0x81 })).map (fun t => (t.a, t.f, t.pc, t.cycles)) =
      some (0x40, 0x10, 0x0101, 4) := by decide

/-- 95_test_vectors.md V5.6 (R340). -/
theorem test_v5_6 :
    (after (placed [0xCB, 0x00] { base with b := 0x80 })).map (fun t => (t.f, t.b, t.pc, t.cycles)) =
      some (0x10, 0x01, 0x0102, 8) := by decide

/-- 95_test_vectors.md V5.8 (R341). -/
theorem test_v5_8 :
    (after (placed [0xCB, 0x06] (holding [(0xC000, 0x81)] { base with h := 0xC0, l := 0x00 }))).map (fun t =>
      (t.f, t.pc, t.cycles, t.byteAt 0xC000)) =
      some (0x10, 0x0102, 16, 0x03) := by decide

/-- 95_test_vectors.md V5.9 (R342). -/
theorem test_v5_9 :
    (after (placed [0xCB, 0x09] { base with c := 0x01 })).map (fun t => (t.f, t.c, t.pc, t.cycles)) =
      some (0x10, 0x80, 0x0102, 8) := by decide

/-- 95_test_vectors.md V5.10 (R344). -/
theorem test_v5_10 :
    (after (placed [0xCB, 0x12] { base with d := 0x80 })).map (fun t => (t.f, t.d, t.pc, t.cycles)) =
      some (0x90, 0x00, 0x0102, 8) := by decide

/-- 95_test_vectors.md V5.11 (R346). -/
theorem test_v5_11 :
    (after (placed [0xCB, 0x1B] { base with e := 0x01, f := 0x10 })).map (fun t => (t.e, t.pc, t.cycles)) =
      some (0x80, 0x0102, 8) := by decide

/-- 95_test_vectors.md V5.12 (R348). -/
theorem test_v5_12 :
    (after (placed [0xCB, 0x24] { base with h := 0x80 })).map (fun t => (t.f, t.h, t.pc, t.cycles)) =
      some (0x90, 0x00, 0x0102, 8) := by decide

/-- 95_test_vectors.md V5.13 (R350). -/
theorem test_v5_13 :
    (after (placed [0xCB, 0x2D] { base with l := 0x81 })).map (fun t => (t.f, t.l, t.pc, t.cycles)) =
      some (0x10, 0xC0, 0x0102, 8) := by decide

/-- 95_test_vectors.md V5.14 (R352). -/
theorem test_v5_14 :
    (after (placed [0xCB, 0x37] { base with a := 0xF1 })).map (fun t => (t.a, t.pc, t.cycles)) =
      some (0x1F, 0x0102, 8) := by decide

/-- 95_test_vectors.md V5.16 (R354). -/
theorem test_v5_16 :
    (after (placed [0xCB, 0x3F] { base with a := 0x01 })).map (fun t => (t.a, t.f, t.pc, t.cycles)) =
      some (0x00, 0x90, 0x0102, 8) := by decide

/-- 95_test_vectors.md V5.17 (R356). -/
theorem test_v5_17 :
    (after (placed [0xCB, 0x7F] { base with a := 0x80, f := 0x10 })).map (fun t => (t.f, t.pc, t.cycles)) =
      some (0x30, 0x0102, 8) := by decide

/-- 95_test_vectors.md V5.19 (R357). -/
theorem test_v5_19 :
    (after (placed [0xCB, 0x46] (holding [(0xC000, 0xFE)] { base with h := 0xC0, l := 0x00 }))).map (fun t =>
      (t.f, t.pc, t.cycles)) =
      some (0xA0, 0x0102, 12) := by decide

/-- 95_test_vectors.md V5.20 (R358). -/
theorem test_v5_20 :
    (after (placed [0xCB, 0x87] { base with a := 0xFF })).map (fun t => (t.a, t.pc, t.cycles)) =
      some (0xFE, 0x0102, 8) := by decide

/-- 95_test_vectors.md V5.21 (R359). -/
theorem test_v5_21 :
    (after (placed [0xCB, 0xBE] (holding [(0xC000, 0xFF)] { base with h := 0xC0, l := 0x00 }))).map (fun t =>
      (t.pc, t.cycles, t.byteAt 0xC000)) =
      some (0x0102, 16, 0x7F) := by decide

/-- 95_test_vectors.md V5.22 (R360). -/
theorem test_v5_22 :
    (after (placed [0xCB, 0xF8] { base with b := 0x00 })).map (fun t => (t.b, t.pc, t.cycles)) =
      some (0x80, 0x0102, 8) := by decide

/-- 95_test_vectors.md V5.23 (R361). -/
theorem test_v5_23 :
    (after (placed [0xCB, 0xC6] (holding [(0xC000, 0x00)] { base with h := 0xC0, l := 0x00 }))).map (fun t =>
      (t.pc, t.cycles, t.byteAt 0xC000)) =
      some (0x0102, 16, 0x01) := by decide

/-- 95_test_vectors.md V6.1 (R380). -/
theorem test_v6_1 :
    (after (placed [0xC3, 0x50, 0x01] base)).map (fun t => (t.pc, t.cycles)) =
      some (0x0150, 16) := by decide

/-- 95_test_vectors.md V6.2 (R381). -/
theorem test_v6_2 :
    (after (placed [0xC2, 0x00, 0x20] { base with f := 0x80 })).map (fun t => (t.pc, t.cycles)) =
      some (0x0103, 12) := by decide

/-- 95_test_vectors.md V6.5 (R382). -/
theorem test_v6_5 :
    (after (placed [0xE9] { base with h := 0x40, l := 0x00 })).map (fun t => (t.pc, t.cycles)) =
      some (0x4000, 4) := by decide

/-- 95_test_vectors.md V6.6 (R383). -/
theorem test_v6_6 :
    (after (placed [0x18, 0xFE] base)).map (fun t => (t.cycles)) =
      some (12) := by decide

/-- 95_test_vectors.md V6.10 (R384). -/
theorem test_v6_10 :
    (after (placed [0x20, 0x05] { base with f := 0x00 })).map (fun t => (t.pc, t.cycles)) =
      some (0x0107, 12) := by decide

/-- 95_test_vectors.md V6.14 (R385). -/
theorem test_v6_14 :
    (after (placed [0xCD, 0x34, 0x12] { base with pc := 0x8000 })).map (fun t =>
      (t.sp, t.pc, t.cycles, t.byteAt 0xFFFD, t.byteAt 0xFFFC)) =
      some (0xFFFC, 0x1234, 24, 0x80, 0x03) := by decide

/-- 95_test_vectors.md V6.15 (R386). -/
theorem test_v6_15 :
    (after (placed [0xCC, 0x00, 0x30] { base with f := 0x80 })).map (fun t =>
      (t.sp, t.pc, t.cycles, t.byteAt 0xFFFD, t.byteAt 0xFFFC)) =
      some (0xFFFC, 0x3000, 24, 0x01, 0x03) := by decide

/-- 95_test_vectors.md V6.17 (R387). -/
theorem test_v6_17 :
    (after (placed [0xC9] (holding [(0xDFFC, 0x03), (0xDFFD, 0x80)] { base with sp := 0xDFFC }))).map (fun t =>
      (t.sp, t.pc, t.cycles)) =
      some (0xDFFE, 0x8003, 16) := by decide

/-- 95_test_vectors.md V6.18 (R388). -/
theorem test_v6_18 :
    (after (placed [0xD8] (holding [(0xDFFC, 0x03), (0xDFFD, 0x80)]
      { base with sp := 0xDFFC, f := 0x10 }))).map (fun t =>
      (t.sp, t.pc, t.cycles)) =
      some (0xDFFE, 0x8003, 20) := by decide

/-- 95_test_vectors.md V6.20 (R389). -/
theorem test_v6_20 :
    (after (placed [0xD9] (holding [(0xDFFC, 0x13), (0xDFFD, 0x02)] { base with sp := 0xDFFC }))).map (fun t =>
      (t.sp, t.pc, t.ime, t.cycles)) =
      some (0xDFFE, 0x0213, true, 16) := by decide

/-- 95_test_vectors.md V6.22 (R390). -/
theorem test_v6_22 :
    (after (placed [0xFF] { base with pc := 0x0200 })).map (fun t =>
      (t.sp, t.pc, t.cycles, t.byteAt 0xFFFD, t.byteAt 0xFFFC)) =
      some (0xFFFC, 0x0038, 16, 0x02, 0x01) := by decide

/-- 95_test_vectors.md V7.1 (R420). -/
theorem test_v7_1 :
    (after (placed [0x00] base)).map (fun t => (t.pc, t.cycles)) =
      some (0x0101, 4) := by decide

/-- 95_test_vectors.md V7.2 (R421). -/
theorem test_v7_2 :
    (after (placed [0x76] base)).map (fun t => (t.pc, t.run, t.cycles)) =
      some (0x0101, RunState.halted, 4) := by decide

/-- 95_test_vectors.md V7.5 (R422). -/
theorem test_v7_5 :
    (after (placed [0x10, 0x00] base)).map (fun t => (t.pc, t.run, t.cycles)) =
      some (0x0102, RunState.halted, 4) := by decide

/-- 95_test_vectors.md V7.7 (R423). -/
theorem test_v7_7 :
    (after (placed [0xF3] { base with ime := true })).map (fun t => (t.pc, t.ime, t.cycles)) =
      some (0x0101, false, 4) := by decide

/-- 95_test_vectors.md V7.9 (R424). -/
theorem test_v7_9 :
    (after (placed [0xFB] base)).map (fun t => (t.pc, t.imePending, t.cycles)) =
      some (0x0101, true, 4) := by decide

/-- 95_test_vectors.md V7.D3 (R425). -/
theorem test_v7_d3 :
    (after (placed [0xD3] { base with a := 0x12, f := 0x50 })).map (fun t => (t.pc, t.cycles)) =
      some (0x0101, 4) := by decide

/-- 95_test_vectors.md V8.1 (R143). -/
theorem test_v8_1 :
    (after (placed [0x00] { base with pc := 0xFFFF })).map (fun t => (t.pc, t.cycles)) =
      some (0x0000, 4) := by decide

/-- 95_test_vectors.md V8.5 (R146). -/
theorem test_v8_5 :
    (after (placed [0x3C] { base with run := RunState.halted, host := [.step true false] })).map (fun t =>
      (t.run, t.cycles)) =
      some (RunState.running, 0) := by decide

/-- 95_test_vectors.md V9.1 (R451). -/
theorem test_v9_1 :
    (after (placed [0x3E, 0x10] { base with busMap := [rejecting 0x0101] })).map (fun t => (t.fault, t.cycles)) =
      some (some ⟨.fetch, 0x0101⟩, 0) := by decide

/-- 95_test_vectors.md V9.2 (R451). -/
theorem test_v9_2 :
    (after (placed [0x00] { base with busMap := [rejecting 0x0100] })).map (fun t => (t.fault, t.cycles)) =
      some (some ⟨.fetch, 0x0100⟩, 0) := by decide

/-- 95_test_vectors.md V9.6 (R460). -/
theorem test_v9_6 :
    (after (placed [0x00]
      { base with ime := true, pc := 0x0213, sp := 0xDFFE, host := [.interruptEntry 0x0040] })).map (fun t =>
      (t.sp, t.pc, t.ime, t.cycles, t.byteAt 0xDFFD, t.byteAt 0xDFFC)) =
      some (0xDFFC, 0x0040, false, 20, 0x02, 0x13) := by decide

/-! ### Steps of more than one kind, from the rules' own examples -/

/-- R424: from `ime` 0, EI then NOP. -/
theorem test_ei_then_nop : ((after (placed [0xFB, 0x00] base)).bind after).map (fun t => (t.ime, t.imePending)) =
    some (true, false) := by decide

/-- R423: EI then DI leaves interrupts off. -/
theorem test_ei_then_di : ((after (placed [0xFB, 0xF3] base)).bind after).map (fun t => (t.ime, t.imePending)) =
    some (false, false) := by decide

/-- R513: LD (HL),d8 that writes the byte after itself; the next step fetches the byte written. -/
theorem test_store_into_next_instruction :
    ((after (placed [0x36, 0x3C, 0x00] { base with h := 0x01, l := 0x02 })).bind after).map (fun t => (t.a, t.pc)) =
      some (0x01, 0x0103) := by decide

/-! ### Witnesses: states and operands that meet the hypotheses of each statement -/

/-- Every address register holds 0xFFFF, and the byte there is 0x42. -/
def top : State :=
  holding [(0xFFFF, 0x42)] { base with b := 0xFF, c := 0xFF, d := 0xFF, e := 0xFF, h := 0xFF, l := 0xFF }

/-- As `top`, on a bus that rejects every access to 0xFFFF. -/
def topRejected : State := { top with busMap := [rejecting 0xFFFF] }

/-- As `top`, on a bus that rejects the writes to 0xFFFF alone. -/
def topReadOnly : State :=
  { top with busMap := [{ rejecting 0xFFFF with rejectsReads := false }] }

/-- The stack pointer where a push wraps: it writes 0x0000, then 0xFFFF. -/
def wrapPush : State := { base with sp := 0x0001 }

/-- The stack pointer where a pop wraps: it reads 0xFFFF, then 0x0000. -/
def wrapPop : State := { base with sp := 0xFFFF }

theorem test_wit_decode_of_encode : (Instr.ldBC_d16 0xFFFF).wellFormed = true ∧ Instr.set7_A.wellFormed = true := by
  decide

theorem test_wit_encode_of_decode : decode [0xCB, 0xFF, 0x00] = .ok (.set7_A, [0x00]) := rfl

theorem test_wit_first_byte : 2 ≤ ([0xCB, 0xFF] : List Byte).length := by decide

theorem test_wit_step_runs : (placed [0x01, 0x34, 0x12] base).fault = none ∧
    (placed [0x01, 0x34, 0x12] base).run = .running ∧ NextMoveIsStep false [] (placed [0x01, 0x34, 0x12] base) ∧
    decode [0x01, 0x34, 0x12] = .ok (.ldBC_d16 0x1234, []) ∧
    HoldsBytes [0x01, 0x34, 0x12] (placed [0x01, 0x34, 0x12] base).pc (placed [0x01, 0x34, 0x12] base) :=
  ⟨rfl, rfl, .inl ⟨rfl, rfl, rfl⟩, rfl, by decide, by decide, by decide, by decide, by decide, by decide, trivial⟩

/-- The bytes of an instruction may go on from 0xFFFF at 0x0000 (R77). -/
theorem test_wit_step_runs_wrapped : HoldsBytes [0x06, 0x34] 0xFFFF (placed [0x06, 0x34] { base with pc := 0xFFFF }) :=
  ⟨by decide, by decide, by decide, by decide, trivial⟩

theorem test_wit_next_move : NextMoveIsStep true [.step false false]
    { base with host := [.step true false, .step false false] } :=
  .inr rfl

theorem test_wit_delayed_enable : base.fault = none ∧
    { base with fault := some ⟨.read, 0xFFFF⟩ }.fault ≠ none := by
  decide

theorem test_wit_halted_steps : { base with run := .halted }.fault = none ∧
    { base with run := .halted }.run = .halted ∧
    NextMoveIsStep false [] { base with run := .halted } ∧
    NextMoveIsStep true [] { base with run := .halted, host := [.step true false] } :=
  ⟨rfl, rfl, .inl ⟨rfl, rfl, rfl⟩, .inr rfl⟩

theorem test_wit_stop_and_fault : { base with host := [.step false true] }.fault = none ∧
    { base with host := [.step false true] }.host = .step false true :: [] ∧
    { base with fault := some ⟨.write, 0x0000⟩ }.fault = some ⟨.write, 0x0000⟩ ∧
    { base with fault := some ⟨.write, 0x0000⟩ }.host = [] ∧
    { base with fault := some ⟨.write, 0x0000⟩, host := [.interruptEntry 0x0040] }.host =
      .interruptEntry 0x0040 :: [] := by
  decide

theorem test_wit_fetch_fault : { base with busMap := [rejecting 0x0100] }.fault = none ∧
    { base with busMap := [rejecting 0x0100] }.run = .running ∧
    NextMoveIsStep false [] { base with busMap := [rejecting 0x0100] } ∧
    { base with busMap := [rejecting 0x0100] }.readAnswer { base with busMap := [rejecting 0x0100] }.pc = none ∧
    (after (placed [0x01, 0x34] { base with busMap := [rejecting 0x0102] })).map (fun t => t.fault) =
      some (some ⟨.fetch, 0x0102⟩) ∧
    (after (placed [0xCB] { base with busMap := [rejecting 0x0101] })).map (fun t => t.fault) =
      some (some ⟨.fetch, 0x0101⟩) :=
  ⟨rfl, rfl, .inl ⟨rfl, rfl, rfl⟩, by decide, by decide, by decide⟩

theorem test_wit_report_once : base.fault = none ∧ (nextOf (step base)).isSome ∧ base.host = [] ∧
    (after (placed [0x7E] topRejected)).map (fun t => (t.fault, t.cycles)) = some (some ⟨.read, 0xFFFF⟩, 0) := by
  decide

theorem test_wit_invariants : State.reset.lowNibbleZero ∧ State.reset.memoryCanonical ∧
    State.reset.wholeMachineCycles ∧ (nextOf (step State.reset)).isSome := by
  decide

theorem test_wit_reset_move :
    { topRejected with host := [.reset .unspecified Config.resetDraw] }.host =
      .reset .unspecified Config.resetDraw :: [] ∧
    { topRejected with host := [.reset .dmgPostBoot Config.resetDraw] }.host =
      .reset .dmgPostBoot Config.resetDraw :: [] := by
  decide

/-- Under the statements about every instruction: one that completes, at its base count and at its taken count, and one
that ends at a fault. -/
theorem test_wit_exec_next : base.fault = none ∧
    (nextOf (exec (.jrNZ_r8 0x10) base)).map (fun t => (t.fault, t.cycles)) = some (none, 12) ∧
    (nextOf (exec (.jrZ_r8 0x10) base)).map (fun t => (t.fault, t.cycles)) = some (none, 8) ∧
    (nextOf (exec .ldA_MemHL topRejected)).map (fun t => t.fault) = some (some ⟨.read, 0xFFFF⟩) := by
  decide

/-- The three clauses on interrupt entry, at the stack pointer where the push wraps. -/
theorem test_wit_interrupt_entry :
    { wrapPush with ime := true, host := [.interruptEntry 0x0040] }.host = .interruptEntry 0x0040 :: [] ∧
    { wrapPush with ime := true }.fault = none ∧ { wrapPush with ime := true }.run = .running ∧
    wrapPush.writeAccepted 0x0000 = true ∧ (wrapPush.countAccess 0x0000).writeAccepted 0xFFFF = true ∧
    { wrapPush with busMap := [rejecting 0x0000] }.writeAccepted 0x0000 = false ∧
    { wrapPush with busMap := [rejecting 0xFFFF] }.writeAccepted 0x0000 = true ∧
    ({ wrapPush with busMap := [rejecting 0xFFFF] }.countAccess 0x0000).writeAccepted 0xFFFF = false := by
  decide

theorem test_wit_entry_refused :
    { base with host := [.interruptEntry 0x0040] }.ime = false ∧
    { base with ime := true, run := .halted, host := [.interruptEntry 0x0040] }.run = .halted ∧
    { base with ime := true, fault := some ⟨.read, 0x0000⟩, host := [.interruptEntry 0x0040] }.fault ≠ none := by
  decide

/-- ByteLoadsReadTheirAddress, PostOpLoadsMoveHlAfterTheAccess, AluOnMemoryWritesAAndFlags, BitTestsOneBit: the read
answered and the read rejected, at the top of the address space. -/
theorem test_wit_reads : top.readAnswer (top.reg8 .h ++ top.reg8 .l) = some 0x42 ∧
    top.readAnswer (top.reg8 .b ++ top.reg8 .c) = some 0x42 ∧
    top.readAnswer (top.reg8 .d ++ top.reg8 .e) = some 0x42 ∧
    top.readAnswer ((0xFF : Byte) ++ top.reg8 .c) = some 0x42 ∧ top.readAnswer 0x0000 = some 0x00 ∧
    topRejected.readAnswer (topRejected.reg8 .h ++ topRejected.reg8 .l) = none ∧
    topRejected.readAnswer (topRejected.reg8 .b ++ topRejected.reg8 .c) = none ∧
    topRejected.readAnswer (topRejected.reg8 .d ++ topRejected.reg8 .e) = none ∧
    topRejected.readAnswer ((0xFF : Byte) ++ topRejected.reg8 .c) = none := by
  decide

/-- ByteStoresWriteTheirAddress and PostOpLoadsMoveHlAfterTheAccess: the write accepted and the write rejected. -/
theorem test_wit_writes : top.writeAccepted (top.reg8 .h ++ top.reg8 .l) = true ∧
    top.writeAccepted (top.reg8 .b ++ top.reg8 .c) = true ∧ top.writeAccepted (top.reg8 .d ++ top.reg8 .e) = true ∧
    top.writeAccepted ((0xFF : Byte) ++ top.reg8 .c) = true ∧ top.writeAccepted 0x0000 = true ∧
    topRejected.writeAccepted (topRejected.reg8 .h ++ topRejected.reg8 .l) = false ∧
    topRejected.writeAccepted (topRejected.reg8 .b ++ topRejected.reg8 .c) = false ∧
    topRejected.writeAccepted (topRejected.reg8 .d ++ topRejected.reg8 .e) = false ∧
    topRejected.writeAccepted ((0xFF : Byte) ++ topRejected.reg8 .c) = false := by
  decide

/-- IncDecMemoryReadThenWrite, RotatesOnMemory, ResAndSetOnMemory: both accesses answered, the write rejected, the read
rejected. -/
theorem test_wit_read_modify_writes : top.readAnswer top.hl = some 0x42 ∧
    (top.countAccess top.hl).writeAccepted top.hl = true ∧
    topReadOnly.readAnswer topReadOnly.hl = some 0x42 ∧
    (topReadOnly.countAccess topReadOnly.hl).writeAccepted topReadOnly.hl = false ∧
    topRejected.readAnswer topRejected.hl = none := by
  decide

/-- LdMemSpStoresLowThenHigh at 0xFFFF, where the second address wraps. -/
theorem test_wit_store_sp : base.writeAccepted 0xFFFF = true ∧
    (base.countAccess 0xFFFF).writeAccepted (0xFFFF + 1) = true ∧
    { base with busMap := [rejecting 0x0000] }.writeAccepted 0xFFFF = true ∧
    ({ base with busMap := [rejecting 0x0000] }.countAccess 0xFFFF).writeAccepted (0xFFFF + 1) = false ∧
    { base with busMap := [rejecting 0xFFFF] }.writeAccepted 0xFFFF = false := by
  decide

/-- PushStoresThePair and CallsPushThePostFetchPc. -/
theorem test_wit_pushes : wrapPush.writeAccepted (wrapPush.sp - 1) = true ∧
    (wrapPush.countAccess (wrapPush.sp - 1)).writeAccepted (wrapPush.sp - 2) = true ∧
    { wrapPush with busMap := [rejecting 0xFFFF] }.writeAccepted (wrapPush.sp - 1) = true ∧
    ({ wrapPush with busMap := [rejecting 0xFFFF] }.countAccess (wrapPush.sp - 1)).writeAccepted (wrapPush.sp - 2) =
      false ∧
    { wrapPush with busMap := [rejecting 0x0000] }.writeAccepted (wrapPush.sp - 1) = false := by
  decide

/-- PopLoadsThePair, ReturnsPopPc and RetiPopsPcAndEnablesAtOnce. -/
theorem test_wit_pops : wrapPop.readAnswer wrapPop.sp = some 0x00 ∧
    (wrapPop.countAccess wrapPop.sp).readAnswer (wrapPop.sp + 1) = some 0x00 ∧
    { wrapPop with busMap := [rejecting 0x0000] }.readAnswer wrapPop.sp = some 0x00 ∧
    ({ wrapPop with busMap := [rejecting 0x0000] }.countAccess wrapPop.sp).readAnswer (wrapPop.sp + 1) = none ∧
    { wrapPop with busMap := [rejecting 0xFFFF] }.readAnswer wrapPop.sp = none := by
  decide

/-- AbsoluteJumpsSetPc, RelativeJumpsCountFromPostFetchPc, CallsPushThePostFetchPc and ReturnsPopPc: each condition
holding. -/
theorem test_wit_conditions_hold : condHolds .nz base ∧ condHolds .z { base with f := 0x80 } ∧ condHolds .nc base ∧
    condHolds .c { base with f := 0x10 } :=
  ⟨rfl, rfl, rfl, rfl⟩

/-- The same statements: each condition not holding. -/
theorem test_wit_conditions_fail : ¬condHolds .nz { base with f := 0x80 } ∧ ¬condHolds .z base ∧
    ¬condHolds .nc { base with f := 0x10 } ∧ ¬condHolds .c base := by
  unfold condHolds
  decide

/-- NopAndIllegalBytesOnlyAdvance. -/
theorem test_wit_illegal : Instr.illegalFD ∈ illegalInstrs := by decide

/-- PlaceholderHasItsDescriptorsShape. -/
theorem test_wit_decodes : decode [0xCB, 0xCB] = .ok (.set1_E, []) := rfl

/-- FetchSeesEarlierStores, at the top address: a store there, and one address it leaves alone. -/
theorem test_wit_fetch_sees_stores :
    (nextOf (exec .ldMemHL_A top)).map (fun t => t.trace) =
      some ([.report 8, .write 0xFFFF top.a] ++ top.trace) ∧
    lastWrite 0xFFFF [.report 8, .write 0xFFFF top.a] = some top.a ∧
    (top.region 0xFFFF).backing = .memory ∧ (top.region 0xFFFF).rejectsReads = false ∧
    lastWrite 0xFFFE [.report 8, .write 0xFFFF top.a] = none := by
  decide

/-- A device that rejects has been accessed all the same: the answer after a reset is the next free value (log 4). -/
theorem test_rejected_device_access_counts :
    let s : State := { top with busMap := [{ rejecting 0xFFFF with backing := .device }] }
    (nextOf (exec .ldA_MemHL s)).map (fun t => (t.fault.isSome, t.deviceAccesses)) = some (true, 1) ∧
    (nextOf (exec .ldMemHL_A s)).map (fun t => (t.fault.isSome, t.deviceAccesses)) = some (true, 1) := by
  decide

/-- EiTakesEffectAfterTheNextInstruction, with NOP and with DI after EI. -/
theorem test_wit_ei : (placed [0xFB, 0x00] base).host = [] ∧ (placed [0xFB, 0x00] base).ime = false ∧
    (placed [0xFB, 0x00] base).imePending = false ∧
    HoldsBytes [0xFB] (placed [0xFB, 0x00] base).pc (placed [0xFB, 0x00] base) ∧
    (after (placed [0xFB, 0x00] base)).map (fun u => (u.fault, u.pc, u.byteAt 0x0101)) = some (none, 0x0101, 0x00) ∧
    decode [0x00] = .ok (.nop, []) ∧ decode [0xF3] = .ok (.di, []) ∧
    (after (placed [0xFB, 0xF3] base)).map (fun u => (u.fault, u.byteAt 0x0101)) = some (none, 0xF3) :=
  ⟨by decide, by decide, by decide, ⟨by decide, by decide, trivial⟩, by decide, rfl, rfl, by decide⟩

end Sys2Proof.Machine
end

section
/-! SUPPORT. The meanings of the whole instruction set, once: `Meaning m i` says which shared operation, with which
operands, is exec's meaning of `i`, row family by row family, and `exec_meaning` ties it to exec. A rule of the whole
machine is proved by cases on it. -/

namespace Sys2Proof.Machine

/-- `m` is the meaning of `i`: one constructor per family of rows with one shared operation. -/
inductive Meaning : (State → Result) → Instr → Prop
  | loadRegReg (dst src : Reg8) : Meaning (loadRegReg dst src) (formLdRegReg dst src)
  | loadRegImm (r : Reg8) (n : Byte) : Meaning (loadRegImm r n) (formLdRegImm r n)
  | loadRegHl (r : Reg8) : Meaning (fun s => loadByte r s.hl 1 8 s) (formLdRegHl r)
  | loadABc : Meaning (fun s => loadByte .a (s.pair .bc) 1 8 s) .ldA_MemBC
  | loadADe : Meaning (fun s => loadByte .a (s.pair .de) 1 8 s) .ldA_MemDE
  | loadAHigh (n : Byte) : Meaning (loadByte .a (highPage n) 2 12) (.ldhA_MemA8 n)
  | loadAHighC : Meaning (fun s => loadByte .a (highPage s.c) 1 8 s) .ldA_MemC
  | loadAAbs (n : Word) : Meaning (loadByte .a n 3 16) (.ldA_MemA16 n)
  | loadAInc : Meaning (loadAStep 1) .ldA_MemHLInc
  | loadADec : Meaning (loadAStep (-1)) .ldA_MemHLDec
  | storeHlReg (r : Reg8) : Meaning (fun s => storeByte s.hl (s.reg8 r) 1 8 s) (formLdHlReg r)
  | storeHlImm (n : Byte) : Meaning (fun s => storeByte s.hl n 2 12 s) (.ldMemHL_d8 n)
  | storeABc : Meaning (fun s => storeByte (s.pair .bc) s.a 1 8 s) .ldMemBC_A
  | storeADe : Meaning (fun s => storeByte (s.pair .de) s.a 1 8 s) .ldMemDE_A
  | storeAHigh (n : Byte) : Meaning (fun s => storeByte (highPage n) s.a 2 12 s) (.ldhMemA8_A n)
  | storeAHighC : Meaning (fun s => storeByte (highPage s.c) s.a 1 8 s) .ldMemC_A
  | storeAAbs (n : Word) : Meaning (fun s => storeByte n s.a 3 16 s) (.ldMemA16_A n)
  | storeAInc : Meaning (storeAStep 1) .ldMemHLInc_A
  | storeADec : Meaning (storeAStep (-1)) .ldMemHLDec_A
  | loadPairImm (rr : Pair) (n : Word) : Meaning (loadPairImm rr n) (formLdPairImm rr n)
  | loadSpHl : Meaning loadSpHl .ldSP_HL
  | loadHlSpOffset (e : Byte) : Meaning (loadHlSpOffset e) (.ldHL_SPr8 e)
  | storeSp (n : Word) : Meaning (storeSp n) (.ldMemA16_SP n)
  | pushPair (rr : StackPair) : Meaning (pushPair rr) (formPush rr)
  | popPair (rr : StackPair) : Meaning (popPair rr) (formPop rr)
  | aluReg (op : AluOp) (r : Reg8) : Meaning (aluReg op r) (formAluReg op r)
  | aluMem (op : AluOp) : Meaning (aluMem op) (formAluMem op)
  | aluImm (op : AluOp) (n : Byte) : Meaning (aluImm op n) (formAluImm op n)
  | incReg (r : Reg8) : Meaning (incReg r) (formIncReg r)
  | incMem : Meaning incMem .incMemHL
  | decReg (r : Reg8) : Meaning (decReg r) (formDecReg r)
  | decMem : Meaning decMem .decMemHL
  | adjustDecimal : Meaning adjustDecimal .daa
  | complementA : Meaning complementA .cpl
  | setCarry : Meaning setCarry .scf
  | complementCarry : Meaning complementCarry .ccf
  | addHlPair (rr : Pair) : Meaning (addHlPair rr) (formAddHl rr)
  | incPair (rr : Pair) : Meaning (incPair rr) (formIncPair rr)
  | decPair (rr : Pair) : Meaning (decPair rr) (formDecPair rr)
  | addSpOffset (e : Byte) : Meaning (addSpOffset e) (.addSP_r8 e)
  | rotateALeftCircular : Meaning (rotateA .rlc) .rlca
  | rotateARightCircular : Meaning (rotateA .rrc) .rrca
  | rotateALeft : Meaning (rotateA .rl) .rla
  | rotateARight : Meaning (rotateA .rr) .rra
  | rotateReg (op : RotOp) (r : Reg8) : Meaning (rotateReg op r) (formRotReg op r)
  | rotateMem (op : RotOp) : Meaning (rotateMem op) (formRotMem op)
  | testBitReg (b : Fin 8) (r : Reg8) : Meaning (testBitReg b r) (formBitReg b r)
  | testBitMem (b : Fin 8) : Meaning (testBitMem b) (formBitMem b)
  | resetBitReg (b : Fin 8) (r : Reg8) : Meaning (resetBitReg b r) (formResReg b r)
  | resetBitMem (b : Fin 8) : Meaning (resetBitMem b) (formResMem b)
  | setBitReg (b : Fin 8) (r : Reg8) : Meaning (setBitReg b r) (formSetReg b r)
  | setBitMem (b : Fin 8) : Meaning (setBitMem b) (formSetMem b)
  | jumpAbs (n : Word) : Meaning (jumpAbs n) (.jpA16 n)
  | jumpAbsIf (cc : Cond) (n : Word) : Meaning (jumpAbsIf cc n) (formJpIf cc n)
  | jumpHl : Meaning jumpHl .jpHL
  | jumpRel (e : Byte) : Meaning (jumpRel e) (.jrR8 e)
  | jumpRelIf (cc : Cond) (e : Byte) : Meaning (jumpRelIf cc e) (formJrIf cc e)
  | call (n : Word) : Meaning (callTo n 3 24) (.callA16 n)
  | callIf (cc : Cond) (n : Word) : Meaning (callIf cc n) (formCallIf cc n)
  | restart (t : Fin 8) : Meaning (callTo (restartVector t) 1 16) (formRst t)
  | ret : Meaning (returnIn 16) .ret
  | returnIf (cc : Cond) : Meaning (returnIf cc) (formRetIf cc)
  | reti : Meaning (fun s => returnFromInterrupt (s.advance 1)) .reti
  | nop : Meaning noEffect .nop
  | prefixCb : Meaning noEffect .prefixCb
  | illegal {i : Instr} (h : i ∈ illegalInstrs) : Meaning noEffect i
  | stop (n : Byte) : Meaning (enterHalted 2) (.stop n)
  | halt : Meaning (enterHalted 1) .halt
  | di : Meaning (fun s => complete 4 ((s.advance 1).setIme false false)) .di
  | ei : Meaning (fun s => complete 4 ((s.advance 1).setIme s.ime true)) .ei

theorem exec_meaning (i : Instr) : Meaning (exec i) i := by
  cases i
  case ldB_B | ldB_C | ldB_D | ldB_E | ldB_H | ldB_L | ldB_A | ldC_B | ldC_C | ldC_D | ldC_E | ldC_H | ldC_L | ldC_A |
      ldD_B | ldD_C | ldD_D | ldD_E | ldD_H | ldD_L | ldD_A | ldE_B | ldE_C | ldE_D | ldE_E | ldE_H | ldE_L | ldE_A |
      ldH_B | ldH_C | ldH_D | ldH_E | ldH_H | ldH_L | ldH_A | ldL_B | ldL_C | ldL_D | ldL_E | ldL_H | ldL_L | ldL_A |
      ldA_B | ldA_C | ldA_D | ldA_E | ldA_H | ldA_L | ldA_A => exact .loadRegReg _ _
  case ldB_d8 | ldC_d8 | ldD_d8 | ldE_d8 | ldH_d8 | ldL_d8 | ldA_d8 => exact .loadRegImm _ _
  case ldB_MemHL | ldC_MemHL | ldD_MemHL | ldE_MemHL | ldH_MemHL | ldL_MemHL | ldA_MemHL => exact .loadRegHl _
  case ldA_MemBC => exact .loadABc
  case ldA_MemDE => exact .loadADe
  case ldhA_MemA8 => exact .loadAHigh _
  case ldA_MemC => exact .loadAHighC
  case ldA_MemA16 => exact .loadAAbs _
  case ldA_MemHLInc => exact .loadAInc
  case ldA_MemHLDec => exact .loadADec
  case ldMemHL_B | ldMemHL_C | ldMemHL_D | ldMemHL_E | ldMemHL_H | ldMemHL_L | ldMemHL_A => exact .storeHlReg _
  case ldMemHL_d8 => exact .storeHlImm _
  case ldMemBC_A => exact .storeABc
  case ldMemDE_A => exact .storeADe
  case ldhMemA8_A => exact .storeAHigh _
  case ldMemC_A => exact .storeAHighC
  case ldMemA16_A => exact .storeAAbs _
  case ldMemHLInc_A => exact .storeAInc
  case ldMemHLDec_A => exact .storeADec
  case ldBC_d16 | ldDE_d16 | ldHL_d16 | ldSP_d16 => exact .loadPairImm _ _
  case ldSP_HL => exact .loadSpHl
  case ldHL_SPr8 => exact .loadHlSpOffset _
  case ldMemA16_SP => exact .storeSp _
  case pushBC | pushDE | pushHL | pushAF => exact .pushPair _
  case popBC | popDE | popHL | popAF => exact .popPair _
  case addA_B | addA_C | addA_D | addA_E | addA_H | addA_L | addA_A | adcA_B | adcA_C | adcA_D | adcA_E | adcA_H |
      adcA_L | adcA_A | subB | subC | subD | subE | subH | subL | subA | sbcA_B | sbcA_C | sbcA_D | sbcA_E | sbcA_H |
      sbcA_L | sbcA_A | andB | andC | andD | andE | andH | andL | andA | xorB | xorC | xorD | xorE | xorH | xorL |
      xorA | orB | orC | orD | orE | orH | orL | orA | cpB | cpC | cpD | cpE | cpH | cpL | cpA => exact .aluReg _ _
  case addA_MemHL | adcA_MemHL | subMemHL | sbcA_MemHL | andMemHL | xorMemHL | orMemHL | cpMemHL => exact .aluMem _
  case addA_d8 | adcA_d8 | subD8 | sbcA_d8 | andD8 | xorD8 | orD8 | cpD8 => exact .aluImm _ _
  case incB | incC | incD | incE | incH | incL | incA => exact .incReg _
  case incMemHL => exact .incMem
  case decB | decC | decD | decE | decH | decL | decA => exact .decReg _
  case decMemHL => exact .decMem
  case daa => exact .adjustDecimal
  case cpl => exact .complementA
  case scf => exact .setCarry
  case ccf => exact .complementCarry
  case addHL_BC | addHL_DE | addHL_HL | addHL_SP => exact .addHlPair _
  case incBC | incDE | incHL | incSP => exact .incPair _
  case decBC | decDE | decHL | decSP => exact .decPair _
  case addSP_r8 => exact .addSpOffset _
  case rlca => exact .rotateALeftCircular
  case rrca => exact .rotateARightCircular
  case rla => exact .rotateALeft
  case rra => exact .rotateARight
  case rlcB | rlcC | rlcD | rlcE | rlcH | rlcL | rlcA | rrcB | rrcC | rrcD | rrcE | rrcH | rrcL | rrcA | rlB | rlC |
      rlD | rlE | rlH | rlL | rlA | rrB | rrC | rrD | rrE | rrH | rrL | rrA | slaB | slaC | slaD | slaE | slaH |
      slaL | slaA | sraB | sraC | sraD | sraE | sraH | sraL | sraA | swapB | swapC | swapD | swapE | swapH | swapL |
      swapA | srlB | srlC | srlD | srlE | srlH | srlL | srlA => exact .rotateReg _ _
  case rlcMemHL | rrcMemHL | rlMemHL | rrMemHL | slaMemHL | sraMemHL | swapMemHL | srlMemHL => exact .rotateMem _
  case bit0_B | bit0_C | bit0_D | bit0_E | bit0_H | bit0_L | bit0_A | bit1_B | bit1_C | bit1_D | bit1_E | bit1_H |
      bit1_L | bit1_A | bit2_B | bit2_C | bit2_D | bit2_E | bit2_H | bit2_L | bit2_A | bit3_B | bit3_C | bit3_D |
      bit3_E | bit3_H | bit3_L | bit3_A | bit4_B | bit4_C | bit4_D | bit4_E | bit4_H | bit4_L | bit4_A | bit5_B |
      bit5_C | bit5_D | bit5_E | bit5_H | bit5_L | bit5_A | bit6_B | bit6_C | bit6_D | bit6_E | bit6_H | bit6_L |
      bit6_A | bit7_B | bit7_C | bit7_D | bit7_E | bit7_H | bit7_L | bit7_A => exact .testBitReg _ _
  case bit0_MemHL | bit1_MemHL | bit2_MemHL | bit3_MemHL | bit4_MemHL | bit5_MemHL | bit6_MemHL | bit7_MemHL =>
      exact .testBitMem _
  case res0_B | res0_C | res0_D | res0_E | res0_H | res0_L | res0_A | res1_B | res1_C | res1_D | res1_E | res1_H |
      res1_L | res1_A | res2_B | res2_C | res2_D | res2_E | res2_H | res2_L | res2_A | res3_B | res3_C | res3_D |
      res3_E | res3_H | res3_L | res3_A | res4_B | res4_C | res4_D | res4_E | res4_H | res4_L | res4_A | res5_B |
      res5_C | res5_D | res5_E | res5_H | res5_L | res5_A | res6_B | res6_C | res6_D | res6_E | res6_H | res6_L |
      res6_A | res7_B | res7_C | res7_D | res7_E | res7_H | res7_L | res7_A => exact .resetBitReg _ _
  case res0_MemHL | res1_MemHL | res2_MemHL | res3_MemHL | res4_MemHL | res5_MemHL | res6_MemHL | res7_MemHL =>
      exact .resetBitMem _
  case set0_B | set0_C | set0_D | set0_E | set0_H | set0_L | set0_A | set1_B | set1_C | set1_D | set1_E | set1_H |
      set1_L | set1_A | set2_B | set2_C | set2_D | set2_E | set2_H | set2_L | set2_A | set3_B | set3_C | set3_D |
      set3_E | set3_H | set3_L | set3_A | set4_B | set4_C | set4_D | set4_E | set4_H | set4_L | set4_A | set5_B |
      set5_C | set5_D | set5_E | set5_H | set5_L | set5_A | set6_B | set6_C | set6_D | set6_E | set6_H | set6_L |
      set6_A | set7_B | set7_C | set7_D | set7_E | set7_H | set7_L | set7_A => exact .setBitReg _ _
  case set0_MemHL | set1_MemHL | set2_MemHL | set3_MemHL | set4_MemHL | set5_MemHL | set6_MemHL | set7_MemHL =>
      exact .setBitMem _
  case jpA16 => exact .jumpAbs _
  case jpNZ_a16 | jpZ_a16 | jpNC_a16 | jpC_a16 => exact .jumpAbsIf _ _
  case jpHL => exact .jumpHl
  case jrR8 => exact .jumpRel _
  case jrNZ_r8 | jrZ_r8 | jrNC_r8 | jrC_r8 => exact .jumpRelIf _ _
  case callA16 => exact .call _
  case callNZ_a16 | callZ_a16 | callNC_a16 | callC_a16 => exact .callIf _ _
  case rst00 | rst08 | rst10 | rst18 | rst20 | rst28 | rst30 | rst38 => exact .restart _
  case ret => exact .ret
  case retNZ | retZ | retNC | retC => exact .returnIf _
  case reti => exact .reti
  case nop => exact .nop
  case prefixCb => exact .prefixCb
  case illegalD3 | illegalDB | illegalDD | illegalE3 | illegalE4 | illegalEB | illegalEC | illegalED | illegalF4 |
      illegalFC | illegalFD => exact .illegal (by decide)
  case stop => exact .stop _
  case halt => exact .halt
  case di => exact .di
  case ei => exact .ei

end Sys2Proof.Machine
end

section
/-! SUPPORT. What every instruction leaves in F, against the table's `flags_ZNHC` string (R12, R37). -/

namespace Sys2Proof.Machine

/-! ### Rows of flag effects -/

@[simp] theorem flagObeys_kept (before after : Bool) : FlagObeys .kept before after ↔ after = before := Iff.rfl
@[simp] theorem flagObeys_cleared (before after : Bool) : FlagObeys .cleared before after ↔ after = false := Iff.rfl
@[simp] theorem flagObeys_set (before after : Bool) : FlagObeys .set before after ↔ after = true := Iff.rfl
@[simp] theorem flagObeys_computed (before after : Bool) : FlagObeys .computed before after := trivial

/-- The four characters of a `flags_ZNHC` string (R12). -/
structure FlagRow where
  z : FlagEffect
  n : FlagEffect
  h : FlagEffect
  c : FlagEffect
  deriving DecidableEq

/-- The `flags_ZNHC` string of an instruction's table entry (R120). -/
def flagRow (i : Instr) : FlagRow :=
  ⟨(descriptor i).effectZ, (descriptor i).effectN, (descriptor i).effectH, (descriptor i).effectC⟩

/-- F before and F after agree with the string, flag by flag (R36). -/
def FlagRow.Obeyed (row : FlagRow) (before after : Byte) : Prop :=
  FlagObeys row.z (before.getLsbD 7) (after.getLsbD 7) ∧ FlagObeys row.n (before.getLsbD 6) (after.getLsbD 6) ∧
    FlagObeys row.h (before.getLsbD 5) (after.getLsbD 5) ∧ FlagObeys row.c (before.getLsbD 4) (after.getLsbD 4)

/-- The string of an instruction that writes no flag. -/
def FlagRow.kept : FlagRow := ⟨.kept, .kept, .kept, .kept⟩

/-- The string of an ALU operation (R250 to R257). -/
def aluFlagRow : AluOp → FlagRow
  | .add | .adc => ⟨.computed, .cleared, .computed, .computed⟩
  | .sub | .sbc | .cp => ⟨.computed, .set, .computed, .computed⟩
  | .and => ⟨.computed, .cleared, .set, .cleared⟩
  | .xor | .or => ⟨.computed, .cleared, .cleared, .cleared⟩

/-- The string of a CB rotate or shift (R340 to R354): SWAP has no bit out. -/
def rotFlagRow : RotOp → FlagRow
  | .swap => ⟨.computed, .cleared, .cleared, .cleared⟩
  | .rlc | .rrc | .rl | .rr | .sla | .sra | .srl => ⟨.computed, .cleared, .cleared, .computed⟩

/-- The string of INC (R285). -/
def incFlagRow : FlagRow := ⟨.computed, .cleared, .computed, .kept⟩

/-- The string of DEC (R287). -/
def decFlagRow : FlagRow := ⟨.computed, .set, .computed, .kept⟩

/-- The string of BIT (R356). -/
def bitFlagRow : FlagRow := ⟨.computed, .cleared, .set, .kept⟩

theorem FlagRow.obeyed_kept (f : Byte) : FlagRow.kept.Obeyed f f := ⟨rfl, rfl, rfl, rfl⟩

@[simp] theorem FlagRow.obeyed_flagByte (row : FlagRow) (f : Byte) (z n h c : Bool) :
    row.Obeyed f (flagByte z n h c) ↔ FlagObeys row.z (f.getLsbD 7) z ∧ FlagObeys row.n (f.getLsbD 6) n ∧
      FlagObeys row.h (f.getLsbD 5) h ∧ FlagObeys row.c (f.getLsbD 4) c := by
  simp only [FlagRow.Obeyed, flagByte_z, flagByte_n, flagByte_h, flagByte_c]

theorem alu8_obeys (op : AluOp) (a b f : Byte) (cin : Bool) :
    let r := alu8 op a b cin
    (aluFlagRow op).Obeyed f (flagByte r.z r.n r.h r.c) := by
  cases op <;> simp [alu8, aluFlagRow, add8, adc8, sub8, sbc8, and8, xor8, or8, cp8]

theorem inc8_obeys (v : Byte) (s : State) :
    let r := inc8 v s.flagC
    incFlagRow.Obeyed s.f (flagByte r.z r.n r.h r.c) := by
  simp [inc8, incFlagRow, State.flagC]

theorem dec8_obeys (v : Byte) (s : State) :
    let r := dec8 v s.flagC
    decFlagRow.Obeyed s.f (flagByte r.z r.n r.h r.c) := by
  simp [dec8, decFlagRow, State.flagC]

theorem rotate8_obeys (op : RotOp) (v f : Byte) (cin z : Bool) :
    (rotFlagRow op).Obeyed f (flagByte z false false (rotate8 op v cin).2) := by
  cases op <;> simp [rotate8, rotFlagRow]

/-! ### F at the end of an instruction -/

/-- If the instruction meets no fault, `P` holds of the F it leaves. -/
def LeavesF (r : Result) (P : Byte → Prop) : Prop := ∀ t, r = .next t → t.fault = none → P t.f

section
variable {P : Byte → Prop} {s : State}

theorem leavesF_complete {n : Nat} (h : P s.f) : LeavesF (complete n s) P := by
  intro t ht _
  obtain rfl := complete_next.1 ht
  exact h

theorem leavesF_ite {b : Bool} {r q : Result} (hr : LeavesF r P) (hq : LeavesF q P) :
    LeavesF (if b then r else q) P := by
  cases b
  · exact hq
  · exact hr

theorem leavesF_memRead {a : Word} {next : Byte → State → Result}
    (h : ∀ v s1, s1.f = s.f → LeavesF (next v s1) P) : LeavesF (memRead a s next) P := by
  intro t ht hf
  obtain ⟨-, rfl⟩ | ⟨v, -, hnext⟩ := memRead_next.1 ht
  · simp at hf
  · exact h v _ (by simp) t hnext hf

theorem leavesF_memWrite {a : Word} {v : Byte} {next : State → Result}
    (h : ∀ s1, s1.f = s.f → LeavesF (next s1) P) : LeavesF (memWrite a v s next) P := by
  intro t ht hf
  obtain ⟨-, rfl⟩ | ⟨-, hnext⟩ := memWrite_next.1 ht
  · simp at hf
  · exact h _ (by simp) t hnext hf

theorem leavesF_push16 {v : Word} {next : State → Result}
    (h : ∀ s1, s1.f = s.f → LeavesF (next s1) P) : LeavesF (push16 v s next) P := by
  unfold push16
  exact leavesF_memWrite fun s1 h1 => leavesF_memWrite fun s2 h2 => h s2 (by simp [h1, h2])

theorem leavesF_pop16 {next : Word → State → Result}
    (h : ∀ v s1, s1.f = s.f → LeavesF (next v s1) P) : LeavesF (pop16 s next) P := by
  unfold pop16
  exact leavesF_memRead fun lo s1 h1 => leavesF_memRead fun hi s2 h2 => h _ _ (by simp [h1, h2])

theorem leavesF_callTo {target : Word} {len cyc : Nat} (h : P s.f) : LeavesF (callTo target len cyc s) P :=
  leavesF_push16 fun _ h1 => leavesF_complete (h1 ▸ h)

theorem leavesF_returnIn {cyc : Nat} (h : P s.f) : LeavesF (returnIn cyc s) P :=
  leavesF_pop16 fun _ _ h1 => leavesF_complete (h1 ▸ h)

theorem leavesF_loadByte {r : Reg8} {a : Word} {len cyc : Nat} (h : P s.f) : LeavesF (loadByte r a len cyc s) P :=
  leavesF_memRead fun _ _ h1 => leavesF_complete (by simpa [h1] using h)

theorem leavesF_storeByte {a : Word} {v : Byte} {len cyc : Nat} (h : P s.f) : LeavesF (storeByte a v len cyc s) P :=
  leavesF_memWrite fun _ h1 => leavesF_complete (h1 ▸ h)

end

/-- The table side and the meaning side of a row apart: what string the table gives, and that F obeys it. -/
theorem leavesF_of_row {i : Instr} {r : Result} {f : Byte} (row : FlagRow) (hi : flagRow i = row)
    (h : LeavesF r (row.Obeyed f)) : LeavesF r ((flagRow i).Obeyed f) := hi ▸ h

theorem illegal_flagRow : ∀ i ∈ illegalInstrs, flagRow i = .kept := by decide

/-- A meaning that writes no flag leaves F alone; one that does writes the byte of its computation (`alu8_obeys` and the
like), or, in POP AF, any byte. -/
theorem meaning_obeys_flagRow {m : State → Result} {i : Instr} (h : Meaning m i) (s : State) :
    LeavesF (m s) ((flagRow i).Obeyed s.f) := by
  have kept : FlagRow.kept.Obeyed s.f s.f := FlagRow.obeyed_kept s.f
  cases h
  case loadRegReg dst src =>
    exact leavesF_of_row .kept (by cases dst <;> cases src <;> rfl) (leavesF_complete (by simpa using kept))
  case loadRegImm r n => exact leavesF_of_row .kept (by cases r <;> rfl) (leavesF_complete (by simpa using kept))
  case loadRegHl r => exact leavesF_of_row .kept (by cases r <;> rfl) (leavesF_loadByte kept)
  case loadABc | loadADe | loadAHigh | loadAHighC | loadAAbs => exact leavesF_of_row .kept rfl (leavesF_loadByte kept)
  case loadAInc | loadADec =>
    exact leavesF_of_row .kept rfl
      (leavesF_memRead fun v s1 h1 => leavesF_complete (by simpa [h1] using kept))
  case storeHlReg r => exact leavesF_of_row .kept (by cases r <;> rfl) (leavesF_storeByte kept)
  case storeHlImm | storeABc | storeADe | storeAHigh | storeAHighC | storeAAbs =>
    exact leavesF_of_row .kept rfl (leavesF_storeByte kept)
  case storeAInc | storeADec =>
    exact leavesF_of_row .kept rfl
      (leavesF_memWrite fun s1 h1 => leavesF_complete (by simpa [h1] using kept))
  case loadPairImm rr n => exact leavesF_of_row .kept (by cases rr <;> rfl) (leavesF_complete (by simpa using kept))
  case loadSpHl => exact leavesF_of_row .kept rfl (leavesF_complete (by simpa using kept))
  case loadHlSpOffset | addSpOffset =>
    exact leavesF_of_row ⟨.cleared, .cleared, .computed, .computed⟩ rfl (leavesF_complete (by simp))
  case storeSp =>
    exact leavesF_of_row .kept rfl
      (leavesF_memWrite fun s1 h1 => leavesF_memWrite fun s2 h2 => leavesF_complete (by simpa [h1, h2] using kept))
  case pushPair rr =>
    exact leavesF_of_row .kept (by cases rr <;> rfl)
      (leavesF_push16 fun s1 h1 => leavesF_complete (by simpa [h1] using kept))
  case popPair rr =>
    cases rr
    case bc | de | hl =>
      exact leavesF_of_row .kept rfl
        (leavesF_pop16 fun v s1 h1 => leavesF_complete (by simpa [State.setStackPair, h1] using kept))
    case af =>
      exact leavesF_of_row ⟨.computed, .computed, .computed, .computed⟩ rfl
        (leavesF_pop16 fun v s1 h1 => leavesF_complete ⟨trivial, trivial, trivial, trivial⟩)
  case aluReg op r =>
    exact leavesF_of_row (aluFlagRow op) (by cases op <;> cases r <;> rfl) (leavesF_complete (alu8_obeys ..))
  case aluMem op =>
    exact leavesF_of_row (aluFlagRow op) (by cases op <;> rfl)
      (leavesF_memRead fun v s1 h1 => leavesF_complete (alu8_obeys ..))
  case aluImm op n =>
    exact leavesF_of_row (aluFlagRow op) (by cases op <;> rfl) (leavesF_complete (alu8_obeys ..))
  case incReg r =>
    exact leavesF_of_row incFlagRow (by cases r <;> rfl) (leavesF_complete (inc8_obeys _ s))
  case incMem =>
    exact leavesF_of_row incFlagRow rfl
      (leavesF_memRead fun v s1 h1 => leavesF_memWrite fun s2 h2 => leavesF_complete (inc8_obeys v s))
  case decReg r =>
    exact leavesF_of_row decFlagRow (by cases r <;> rfl) (leavesF_complete (dec8_obeys _ s))
  case decMem =>
    exact leavesF_of_row decFlagRow rfl
      (leavesF_memRead fun v s1 h1 => leavesF_memWrite fun s2 h2 => leavesF_complete (dec8_obeys v s))
  case adjustDecimal =>
    exact leavesF_of_row ⟨.computed, .kept, .cleared, .computed⟩ rfl
      (leavesF_complete (by simp [daa8, State.flagN]))
  case complementA =>
    exact leavesF_of_row ⟨.kept, .set, .set, .kept⟩ rfl (leavesF_complete (by simp [State.flagZ, State.flagC]))
  case setCarry =>
    exact leavesF_of_row ⟨.kept, .cleared, .cleared, .set⟩ rfl (leavesF_complete (by simp [State.flagZ]))
  case complementCarry =>
    exact leavesF_of_row ⟨.kept, .cleared, .cleared, .computed⟩ rfl (leavesF_complete (by simp [State.flagZ]))
  case addHlPair rr =>
    exact leavesF_of_row ⟨.kept, .cleared, .computed, .computed⟩ (by cases rr <;> rfl)
      (leavesF_complete (by simp [State.flagZ]))
  case incPair rr | decPair rr =>
    exact leavesF_of_row .kept (by cases rr <;> rfl) (leavesF_complete (by simpa using kept))
  case rotateALeftCircular | rotateARightCircular | rotateALeft | rotateARight =>
    exact leavesF_of_row ⟨.cleared, .cleared, .cleared, .computed⟩ rfl (leavesF_complete (by simp))
  case rotateReg op r =>
    exact leavesF_of_row (rotFlagRow op) (by cases op <;> cases r <;> rfl) (leavesF_complete (rotate8_obeys ..))
  case rotateMem op =>
    exact leavesF_of_row (rotFlagRow op) (by cases op <;> rfl)
      (leavesF_memRead fun v s1 h1 => leavesF_memWrite fun s2 h2 => leavesF_complete (rotate8_obeys ..))
  case testBitReg b r =>
    exact leavesF_of_row bitFlagRow (by cases r <;> revert b <;> decide)
      (leavesF_complete (by simp [bitFlagRow, State.flagC]))
  case testBitMem b =>
    exact leavesF_of_row bitFlagRow (by revert b; decide)
      (leavesF_memRead fun v s1 h1 => leavesF_complete (by simp [bitFlagRow, State.flagC]))
  case resetBitReg b r | setBitReg b r =>
    exact leavesF_of_row .kept (by cases r <;> revert b <;> decide) (leavesF_complete (by simpa using kept))
  case resetBitMem b | setBitMem b =>
    exact leavesF_of_row .kept (by revert b; decide)
      (leavesF_memRead fun v s1 h1 => leavesF_memWrite fun s2 h2 => leavesF_complete (by simpa [h1, h2] using kept))
  case jumpAbs | jumpHl | jumpRel => exact leavesF_of_row .kept rfl (leavesF_complete kept)
  case jumpAbsIf cc _ | jumpRelIf cc _ =>
    exact leavesF_of_row .kept (by cases cc <;> rfl) (leavesF_ite (leavesF_complete kept) (leavesF_complete kept))
  case call => exact leavesF_of_row .kept rfl (leavesF_callTo kept)
  case callIf cc n =>
    exact leavesF_of_row .kept (by cases cc <;> rfl) (leavesF_ite (leavesF_callTo kept) (leavesF_complete kept))
  case restart t => exact leavesF_of_row .kept (by revert t; decide) (leavesF_callTo kept)
  case ret => exact leavesF_of_row .kept rfl (leavesF_returnIn kept)
  case returnIf cc =>
    exact leavesF_of_row .kept (by cases cc <;> rfl) (leavesF_ite (leavesF_returnIn kept) (leavesF_complete kept))
  case reti =>
    exact leavesF_of_row .kept rfl (leavesF_pop16 fun v s1 h1 => leavesF_complete (by simpa [h1] using kept))
  case nop | prefixCb | stop | halt | di | ei => exact leavesF_of_row .kept rfl (leavesF_complete kept)
  case illegal hi =>
    exact leavesF_of_row .kept (illegal_flagRow i hi) (leavesF_complete kept)

/-- Settles O16: exec of every instruction is one of the meanings, and each leaves F as its string says. -/
theorem flagsObeyTheTable : Obligations.FlagsObeyTheTable :=
  fun i s t _ ht hf => meaning_obeys_flagRow (exec_meaning i) s t ht hf

end Sys2Proof.Machine
end

section
/-! SUPPORT. What an instruction, and what a step, can do to the state, said once: a run of updates (`Reaches`), of
which only the named ones write the control state, and then either the cycle report or a recorded fault (`Finishes`).
`exec_ends` and `step_next` tie it to exec and step; an invariant of the machine is then an induction over the
updates. -/

namespace Sys2Proof.Machine

/-! ### The updates -/

/-- One update on the way from the start of an instruction to its end; `W` says which writes of the control state are
among them. -/
inductive Update (W : State → State → Prop) : State → State → Prop
  | setPc (v : Word) (s : State) : Update W s (s.setPc v)
  | setReg8 (r : Reg8) (v : Byte) (s : State) : Update W s (s.setReg8 r v)
  | setPair (rr : Pair) (v : Word) (s : State) : Update W s (s.setPair rr v)
  | setFlags (z n h c : Bool) (s : State) : Update W s (s.setFlags z n h c)
  | setF (v : Byte) (s : State) : Update W s (s.setF v)
  | read (k : AccessKind) (a : Word) (v : Byte) (s : State) (hk : k ≠ .write) (answered : s.readAnswer a = some v) :
      Update W s ((s.countAccess a).emit (readEvent k a v))
  | write (a : Word) (v : Byte) (s : State) (accepted : s.writeAccepted a = true) :
      Update W s (((s.store a v).countAccess a).emit (.write a v))
  | control {s u : State} (h : W s u) : Update W s u

/-- The writes of the control state an instruction makes (R389, R421 to R424). -/
inductive ControlWrite : Instr → State → State → Prop
  | di (s : State) : ControlWrite .di s (s.setIme false false)
  | ei (s : State) : ControlWrite .ei s (s.setIme s.ime true)
  | reti (s : State) : ControlWrite .reti s (s.setIme true false)
  | halt (s : State) : ControlWrite .halt s (s.setRun .halted)
  | stop (n : Byte) (s : State) : ControlWrite (.stop n) s (s.setRun .halted)

/-- The writes of the control state a step makes: an instruction's, the promotion of a pending enable (R145), interrupt
entry's (R460), and a wake's (R146). -/
inductive StepControlWrite : State → State → Prop
  | instr {i : Instr} {s u : State} (h : ControlWrite i s u) : StepControlWrite s u
  | promote (s : State) : StepControlWrite s (s.setIme true false)
  | entry (s : State) : StepControlWrite s (s.setIme false false)
  | wake (s : State) : StepControlWrite s (s.setRun .running)

/-- Any number of updates. -/
abbrev Reaches (W : State → State → Prop) : State → State → Prop := Relation.ReflTransGen (Update W)

/-- How an instruction ends: its cycles added and reported (R144), or the fault of a rejected access (R150, R450). -/
inductive Finishes : State → State → Prop
  | report (n : Nat) (u : State) : Finishes u (u.report n)
  | readFault (k : AccessKind) (a : Word) (u : State) (hk : k ≠ .write) (rejected : u.readAnswer a = none) :
      Finishes u ((u.countAccess a).raise k a)
  | writeFault (a : Word) (u : State) (rejected : u.writeAccepted a = false) :
      Finishes u ((u.countAccess a).raise .write a)

/-- If the outcome is a next state, updates lead there from `s`, and then the end. -/
def Ends (W : State → State → Prop) (s : State) (r : Result) : Prop :=
  ∀ t, r = .next t → ∃ u, Reaches W s u ∧ Finishes u t

section
variable {W : State → State → Prop} {s u : State}

theorem Reaches.setPc {v : Word} (h : Reaches W s u) : Reaches W s (u.setPc v) := h.tail (.setPc v u)

theorem Reaches.advance {n : Nat} (h : Reaches W s u) : Reaches W s (u.advance n) := h.setPc

theorem Reaches.setReg8 {r : Reg8} {v : Byte} (h : Reaches W s u) : Reaches W s (u.setReg8 r v) :=
  h.tail (.setReg8 r v u)

theorem Reaches.setPair {rr : Pair} {v : Word} (h : Reaches W s u) : Reaches W s (u.setPair rr v) :=
  h.tail (.setPair rr v u)

theorem Reaches.setSp {v : Word} (h : Reaches W s u) : Reaches W s (u.setSp v) := h.setPair (rr := .sp)

theorem Reaches.setFlags {z n hc c : Bool} (h : Reaches W s u) : Reaches W s (u.setFlags z n hc c) :=
  h.tail (.setFlags z n hc c u)

theorem Reaches.setAluFlags {r : Alu} (h : Reaches W s u) : Reaches W s (u.setAluFlags r) := h.setFlags

theorem Reaches.setAlu {r : Alu} (h : Reaches W s u) : Reaches W s (u.setAlu r) := h.setReg8.setAluFlags

theorem Reaches.setStackPair {rr : StackPair} {v : Word} (h : Reaches W s u) : Reaches W s (u.setStackPair rr v) := by
  cases rr
  case bc => exact h.setPair (rr := .bc)
  case de => exact h.setPair (rr := .de)
  case hl => exact h.setPair (rr := .hl)
  case af => exact (h.setReg8 (r := .a) (v := hiByte v)).tail (.setF (loByte v) _)

theorem Reaches.control {v : State} (h : Reaches W s u) (hw : W u v) : Reaches W s v := h.tail (.control hw)

/-! ### The operations -/

theorem Reaches.complete {n : Nat} (h : Reaches W s u) : Ends W s (complete n u) := by
  intro t ht
  obtain rfl := complete_next.1 ht
  exact ⟨u, h, .report n u⟩

theorem Reaches.busRead {k : AccessKind} {a : Word} {next : Byte → State → Result} (h : Reaches W s u)
    (hk : k ≠ .write) (hn : ∀ v s1, Reaches W s s1 → Ends W s (next v s1)) : Ends W s (busRead k a u next) := by
  intro t ht
  obtain ⟨rejected, rfl⟩ | ⟨v, answered, hnext⟩ := busRead_next.1 ht
  · exact ⟨u, h, .readFault k a u hk rejected⟩
  · exact hn v _ (h.tail (.read k a v u hk answered)) t hnext

theorem Reaches.memRead {a : Word} {next : Byte → State → Result} (h : Reaches W s u)
    (hn : ∀ v s1, Reaches W s s1 → Ends W s (next v s1)) : Ends W s (memRead a u next) :=
  h.busRead (by decide) hn

theorem Reaches.memWrite {a : Word} {v : Byte} {next : State → Result} (h : Reaches W s u)
    (hn : ∀ s1, Reaches W s s1 → Ends W s (next s1)) : Ends W s (memWrite a v u next) := by
  intro t ht
  obtain ⟨rejected, rfl⟩ | ⟨accepted, hnext⟩ := memWrite_next.1 ht
  · exact ⟨u, h, .writeFault a u rejected⟩
  · exact hn _ (h.tail (.write a v u accepted)) t hnext

theorem Reaches.push16 {v : Word} {next : State → Result} (h : Reaches W s u)
    (hn : ∀ s1, Reaches W s s1 → Ends W s (next s1)) : Ends W s (push16 v u next) :=
  h.setSp.memWrite fun _ h1 => h1.setSp.memWrite hn

theorem Reaches.pop16 {next : Word → State → Result} (h : Reaches W s u)
    (hn : ∀ v s1, Reaches W s s1 → Ends W s (next v s1)) : Ends W s (pop16 u next) :=
  h.memRead fun _ _ h1 => h1.setSp.memRead fun _ _ h2 => hn _ _ h2.setSp

theorem Reaches.loadByte {r : Reg8} {a : Word} {len cyc : Nat} (h : Reaches W s u) :
    Ends W s (loadByte r a len cyc u) := h.advance.memRead fun _ _ h1 => h1.setReg8.complete

theorem Reaches.storeByte {a : Word} {v : Byte} {len cyc : Nat} (h : Reaches W s u) :
    Ends W s (storeByte a v len cyc u) := h.advance.memWrite fun _ h1 => h1.complete

theorem Reaches.callTo {target : Word} {len cyc : Nat} (h : Reaches W s u) : Ends W s (callTo target len cyc u) :=
  h.advance.push16 fun _ h1 => h1.setPc.complete

theorem Reaches.returnIn {cyc : Nat} (h : Reaches W s u) : Ends W s (returnIn cyc u) :=
  h.advance.pop16 fun _ _ h1 => h1.setPc.complete

theorem Ends.ite {b : Bool} {r q : Result} (hr : Ends W s r) (hq : Ends W s q) : Ends W s (if b then r else q) := by
  cases b
  · exact hq
  · exact hr

end

/-! ### The instructions -/

/-- Every meaning is updates and then the end; its own control writes are the only ones. -/
theorem meaning_ends {m : State → Result} {i : Instr} (h : Meaning m i) (s : State) :
    Ends (ControlWrite i) s (m s) := by
  have start : Reaches (ControlWrite i) s s := .refl
  cases h
  case loadRegReg | loadRegImm => exact start.advance.setReg8.complete
  case loadRegHl | loadABc | loadADe | loadAHigh | loadAHighC | loadAAbs => exact start.loadByte
  case loadAInc | loadADec => exact start.advance.memRead fun _ _ h1 => h1.setReg8.setPair.complete
  case storeHlReg | storeHlImm | storeABc | storeADe | storeAHigh | storeAHighC | storeAAbs => exact start.storeByte
  case storeAInc | storeADec => exact start.advance.memWrite fun _ h1 => h1.setPair.complete
  case loadPairImm | incPair | decPair => exact start.advance.setPair.complete
  case loadSpHl => exact start.advance.setSp.complete
  case loadHlSpOffset | addHlPair => exact start.advance.setPair.setFlags.complete
  case addSpOffset => exact start.advance.setSp.setFlags.complete
  case storeSp => exact start.advance.memWrite fun _ h1 => h1.memWrite fun _ h2 => h2.complete
  case pushPair => exact start.advance.push16 fun _ h1 => h1.complete
  case popPair => exact start.advance.pop16 fun _ _ h1 => h1.setStackPair.complete
  case aluReg | aluImm | adjustDecimal => exact start.advance.setAlu.complete
  case aluMem => exact start.advance.memRead fun _ _ h1 => h1.setAlu.complete
  case incReg | decReg => exact start.advance.setReg8.setAluFlags.complete
  case incMem | decMem =>
    exact start.advance.memRead fun _ _ h1 => h1.memWrite fun _ h2 => h2.setAluFlags.complete
  case complementA | rotateALeftCircular | rotateARightCircular | rotateALeft | rotateARight | rotateReg =>
    exact start.advance.setReg8.setFlags.complete
  case setCarry | complementCarry | testBitReg => exact start.advance.setFlags.complete
  case rotateMem => exact start.advance.memRead fun _ _ h1 => h1.memWrite fun _ h2 => h2.setFlags.complete
  case testBitMem => exact start.advance.memRead fun _ _ h1 => h1.setFlags.complete
  case resetBitReg | setBitReg => exact start.advance.setReg8.complete
  case resetBitMem | setBitMem => exact start.advance.memRead fun _ _ h1 => h1.memWrite fun _ h2 => h2.complete
  case jumpAbs | jumpHl | jumpRel => exact start.advance.setPc.complete
  case jumpAbsIf | jumpRelIf => exact .ite start.advance.setPc.complete start.advance.complete
  case call | restart => exact start.callTo
  case callIf => exact .ite start.callTo start.advance.complete
  case ret => exact start.returnIn
  case returnIf => exact .ite start.returnIn start.advance.complete
  case reti => exact start.advance.pop16 fun _ _ h1 => (h1.setPc.control (.reti _)).complete
  case nop | prefixCb | illegal => exact start.advance.complete
  case stop => exact (start.advance.control (.stop _ _)).complete
  case halt => exact (start.advance.control (.halt _)).complete
  case di => exact (start.advance.control (.di _)).complete
  case ei => exact (start.advance.control (.ei _)).complete

theorem exec_ends (i : Instr) (s : State) : Ends (ControlWrite i) s (exec i s) := meaning_ends (exec_meaning i) s

/-! ### The step -/

theorem Update.mono {W W' : State → State → Prop} {x y : State} (h : Update W x y)
    (hW : ∀ {x y : State}, W x y → W' x y) : Update W' x y := by
  cases h with
  | setPc v => exact .setPc v x
  | setReg8 r v => exact .setReg8 r v x
  | setPair rr v => exact .setPair rr v x
  | setFlags z n h c => exact .setFlags z n h c x
  | setF v => exact .setF v x
  | read k a v _ hk answered => exact .read k a v x hk answered
  | write a v _ accepted => exact .write a v x accepted
  | control hw => exact .control (hW hw)

theorem Reaches.exec {s u : State} (i : Instr) (h : Reaches StepControlWrite s u) :
    Ends StepControlWrite s (exec i u) := by
  intro t ht
  obtain ⟨v, huv, hfin⟩ := exec_ends i u t ht
  have lifted : Reaches StepControlWrite u v := Relation.ReflTransGen.mono (fun _ _ hxy => hxy.mono .instr) _ _ huv
  exact ⟨v, h.trans lifted, hfin⟩

theorem Reaches.fetchRest {W : State → State → Prop} {s : State} {next : Instr → State → Result} (d : Decoding)
    (hn : ∀ i s1, Reaches W s s1 → Ends W s (next i s1)) :
    ∀ (a : Word) (u : State), Reaches W s u → Ends W s (fetchRest d a u next) := by
  induction d with
  | done i => exact fun _ u h => hn i u h
  | more next ih => exact fun a u h => h.busRead (by decide) fun v s1 h1 => ih v (a + 1) s1 h1

theorem Reaches.fetchInstr {W : State → State → Prop} {s u : State} {next : Instr → State → Result}
    (h : Reaches W s u) (hn : ∀ i s1, Reaches W s s1 → Ends W s (next i s1)) : Ends W s (fetchInstr u next) :=
  h.busRead (by decide) fun op s1 h1 => Reaches.fetchRest (decodeFrom op) hn (u.pc + 1) s1 h1

theorem Reaches.promoteIme {s u : State} (p : Bool) (h : Reaches StepControlWrite s u) :
    Reaches StepControlWrite s (promoteIme p u) := by
  unfold Machine.promoteIme
  split
  · exact h.control (.promote u)
  · exact h

/-- R145 acts on other fields than the report of R144 does (log 14). -/
theorem promoteIme_report (p : Bool) (n : Nat) (s : State) :
    promoteIme p (s.report n) = (promoteIme p s).report n := by
  unfold promoteIme
  rw [State.report_imePending]
  split <;> rfl

theorem Ends.endStep {s : State} {r : Result} (p : Bool) (h : Ends StepControlWrite s r) :
    Ends StepControlWrite s (endStep p r) := by
  intro t ht
  cases r with
  | fault | refused => cases ht
  | next t1 =>
    obtain ⟨u, hu, hfin⟩ := h t1 rfl
    obtain rfl := Host.Outcome.next.inj ht
    cases hfin with
    | readFault k a _ hk rejected => simpa using ⟨u, hu, .readFault k a u hk rejected⟩
    | writeFault a _ rejected => simpa using ⟨u, hu, .writeFault a u rejected⟩
    | report n =>
      split
      · exact ⟨_, hu.promoteIme p, promoteIme_report p n u ▸ .report n _⟩
      · exact ⟨u, hu, .report n u⟩

theorem coreStep_ends (wake stopReq : Bool) (s : State) : Ends StepControlWrite s (coreStep wake stopReq s) := by
  have start : Reaches StepControlWrite s s := .refl
  unfold coreStep
  refine .ite (fun t ht => by cases ht) ?_
  cases s.run with
  | running => exact (start.fetchInstr fun i s1 h1 => h1.exec i).endStep s.imePending
  | halted => exact .ite (start.control (.wake s)).complete start.complete

theorem interruptEntry_ends (v : Word) (s : State) : Ends StepControlWrite s (interruptEntry v s) :=
  have start : Reaches StepControlWrite s s := .refl
  (start.control (.entry s)).push16 fun _ h1 => h1.setPc.complete

theorem unlessFaulted_next {s t : State} {r : Result} :
    unlessFaulted s r = .next t ↔ s.fault = none ∧ r = .next t := by
  unfold unlessFaulted
  cases s.fault <;> simp

theorem hostEntry_next {v : Word} {s t : State} :
    hostEntry v s = .next t ↔ s.entryAllowed = true ∧ interruptEntry v s = .next t := by
  unfold hostEntry
  cases s.entryAllowed <;> simp

/-- A step that answers a next state is a reset, or, in a core without a fault, takes the host's next move and makes
updates up to its end. -/
theorem step_next {s t : State} (h : step s = .next t) :
    (∃ p draw rest, s.host = .reset p draw :: rest ∧ t = ({ s with host := rest } : State).resetTo p draw) ∨
    (s.fault = none ∧ ∃ u, Reaches StepControlWrite { s with host := s.host.tail } u ∧ Finishes u t) := by
  unfold step nextMove at h
  cases hh : s.host with
  | nil =>
    rw [hh] at h
    obtain ⟨hf, hc⟩ := unlessFaulted_next.1 h
    have hs : ({ s with host := [] } : State) = s := by rw [← hh]
    exact .inr ⟨hf, by simpa [hs] using coreStep_ends _ _ s t hc⟩
  | cons move rest =>
    rw [hh] at h
    cases move with
    | step wake stopReq =>
      obtain ⟨hf, hc⟩ := unlessFaulted_next.1 h
      exact .inr ⟨hf, coreStep_ends _ _ _ t hc⟩
    | interruptEntry v =>
      obtain ⟨allowed, he⟩ := hostEntry_next.1 h
      have hf : s.fault = none := by
        simp only [State.entryAllowed, Bool.and_eq_true, decide_eq_true_eq] at allowed
        exact allowed.1.1
      exact .inr ⟨hf, interruptEntry_ends _ _ t he⟩
    | reset p draw => exact .inl ⟨p, draw, rest, rfl, (Host.Outcome.next.inj h).symm⟩

/-- The control writes of a step touch no other field. -/
theorem StepControlWrite.only_control {x y : State} (h : StepControlWrite x y) :
    ∃ enabled pending run, y = { x with ime := enabled, imePending := pending, run := run } := by
  cases h with
  | instr hi => cases hi <;> exact ⟨_, _, _, rfl⟩
  | promote | entry | wake => exact ⟨_, _, _, rfl⟩

/-- What every update keeps, a run of updates keeps. -/
theorem Reaches.keeps {W : State → State → Prop} {P : State → Prop} {s u : State} (h : Reaches W s u)
    (hP : ∀ x y, Update W x y → P x → P y) (hs : P s) : P u := by
  induction h with
  | refl => exact hs
  | tail _ hxy ih => exact hP _ _ hxy ih

end Sys2Proof.Machine
end

section
/-! SUPPORT. The rules of state that every step keeps: one report of what is added to cycles (R54, R144, R451), F's low
nibble (R32), and which instructions write the control state (R40 to R42). -/

namespace Sys2Proof.Machine

/-! ### One report -/

@[simp] theorem readEvent_isReport (k : AccessKind) (a : Word) (v : Byte) : (readEvent k a v).isReport = false := by
  cases k <;> rfl

/-- From `s` to `u` outputs were made, none of them a report, and `cycles` and the fault record stayed. -/
structure Unreported (s u : State) : Prop where
  fault : u.fault = s.fault
  cycles : u.cycles = s.cycles
  trace : ∃ es : List Event, (∀ e ∈ es, e.isReport = false) ∧ u.trace = es ++ s.trace

theorem Unreported.refl (s : State) : Unreported s s := ⟨rfl, rfl, [], by simp, rfl⟩

/-- An update that leaves `cycles`, the fault record and the outputs alone. -/
theorem Unreported.of_same {s x y : State} (h : Unreported s x) (hf : y.fault = x.fault) (hc : y.cycles = x.cycles)
    (ht : y.trace = x.trace) : Unreported s y :=
  ⟨hf.trans h.fault, hc.trans h.cycles, ht ▸ h.trace⟩

theorem Unreported.emit {s x : State} (h : Unreported s x) {e : Event} (he : e.isReport = false) :
    Unreported s (x.emit e) := by
  obtain ⟨es, hes, htrace⟩ := h.trace
  exact ⟨h.fault, h.cycles, e :: es, by simpa [he] using hes, congrArg (e :: ·) htrace⟩

theorem Unreported.update {s x y : State} (hxy : Update StepControlWrite x y) (h : Unreported s x) :
    Unreported s y := by
  cases hxy with
  | read k a v =>
    have counted : Unreported s (x.countAccess a) := h.of_same (by simp) (by simp) (by simp)
    exact counted.emit (readEvent_isReport k a v)
  | write a v =>
    have stored : Unreported s ((x.store a v).countAccess a) := h.of_same (by simp) (by simp) (by simp)
    exact stored.emit rfl
  | control hw =>
    obtain ⟨enabled, pending, run, rfl⟩ := hw.only_control
    exact h.of_same rfl rfl rfl
  | setPc | setReg8 | setPair | setFlags | setF => exact h.of_same (by simp) (by simp) (by simp)

/-- Settles O10: every update of a step leaves the reports, `cycles` and the fault record alone, and its end either
reports what it adds or records a fault. -/
theorem everyStepReportsOnceWhatItAdds : Obligations.EveryStepReportsOnceWhatItAdds := by
  intro s t _ hstep hreset
  obtain ⟨p, draw, rest, hhost, -⟩ | ⟨hnofault, u, hreach, hfin⟩ := step_next hstep
  · exact absurd hhost (hreset p draw rest)
  obtain ⟨hfault, hcycles, es, hes, htrace⟩ := hreach.keeps (fun _ _ => Unreported.update) (Unreported.refl _)
  refine ⟨es, hes, ?_⟩
  cases hfin with
  | report n => exact .inl ⟨by simp [hfault, hnofault], n, by simp [hcycles], by simp [htrace]⟩
  | readFault | writeFault => exact .inr ⟨by simp, by simp [hcycles], by simp [htrace]⟩

/-! ### The low nibble of F -/

theorem State.lowNibbleZero_of_same_f {x y : State} (h : x.lowNibbleZero) (hf : y.f = x.f) : y.lowNibbleZero := by
  rw [State.lowNibbleZero, hf]
  exact h

theorem Update.lowNibbleZero {x y : State} (hxy : Update StepControlWrite x y) (h : x.lowNibbleZero) :
    y.lowNibbleZero := by
  cases hxy with
  | setFlags z n h c => exact flagByte_low z n h c
  | setF v => exact mask_low v
  | control hw =>
    obtain ⟨enabled, pending, run, rfl⟩ := hw.only_control
    exact h
  | setPc | setReg8 | setPair | read | write => exact State.lowNibbleZero_of_same_f h (by simp)

theorem State.resetTo_lowNibbleZero (p : Config.ResetProfile) (draw : Config.ResetRegisters) (s : State) :
    (s.resetTo p draw).lowNibbleZero := by
  cases p
  case unspecified => exact mask_low draw.f
  case dmgPostBoot => exact (by decide : (0xB0 : Byte) &&& 0x0F = 0)

/-- Settles O11: of all updates only `setFlags` and `setF` write F, and both leave its low nibble zero, as
reset does. -/
theorem lowNibbleOfFStaysZero : Obligations.LowNibbleOfFStaysZero := by
  intro s t hs hstep
  obtain ⟨p, draw, rest, -, rfl⟩ | ⟨-, u, hreach, hfin⟩ := step_next hstep
  · exact State.resetTo_lowNibbleZero p draw _
  have hu : u.lowNibbleZero := hreach.keeps (fun _ _ => Update.lowNibbleZero) hs
  cases hfin <;> exact State.lowNibbleZero_of_same_f hu (by simp)

/-! ### The control state -/

/-- From `s` to `t` the control state is written only as R40 to R42 allow instruction `i`. -/
structure ControlKept (i : Instr) (s t : State) : Prop where
  ime : t.ime = s.ime ∨ i = .di ∨ i = .reti
  imePending : t.imePending = s.imePending ∨ i = .di ∨ i = .reti ∨ i = .ei
  run : t.run = s.run ∨ (t.run = .halted ∧ (i = .halt ∨ ∃ n, i = .stop n))

theorem ControlKept.refl (i : Instr) (s : State) : ControlKept i s s := ⟨.inl rfl, .inl rfl, .inl rfl⟩

/-- An update that leaves the control state alone. -/
theorem ControlKept.of_same {i : Instr} {s x y : State} (h : ControlKept i s x) (hi : y.ime = x.ime)
    (hp : y.imePending = x.imePending) (hr : y.run = x.run) : ControlKept i s y :=
  ⟨hi ▸ h.ime, hp ▸ h.imePending, hr ▸ h.run⟩

theorem ControlKept.write {i : Instr} {s x y : State} (hw : ControlWrite i x y) (h : ControlKept i s x) :
    ControlKept i s y := by
  obtain ⟨hime, hpending, hrun⟩ := h
  cases hw with
  | di | reti => exact ⟨by simp, by simp, hrun⟩
  | ei => exact ⟨hime, by simp, hrun⟩
  | halt | stop => exact ⟨hime, hpending, by simp⟩

theorem ControlKept.update {i : Instr} {s x y : State} (hxy : Update (ControlWrite i) x y) (h : ControlKept i s x) :
    ControlKept i s y := by
  cases hxy with
  | control hw => exact .write hw h
  | setPc | setReg8 | setPair | setFlags | setF | read | write => exact h.of_same (by simp) (by simp) (by simp)

/-- Settles O18: the control writes of an instruction's meaning are those of DI, EI, RETI, HALT and STOP, and no other
update touches the control state. -/
theorem onlyTheNamedInstructionsWriteControlState : Obligations.OnlyTheNamedInstructionsWriteControlState := by
  intro i s t hexec
  obtain ⟨u, hreach, hfin⟩ := exec_ends i s t hexec
  have hu : ControlKept i s u := hreach.keeps (fun _ _ => ControlKept.update) (.refl i s)
  obtain ⟨hime, hpending, hrun⟩ : ControlKept i s t := by
    cases hfin <;> exact hu.of_same (by simp) (by simp) (by simp)
  exact ⟨hime, hpending, hrun⟩

end Sys2Proof.Machine
end

section
/-! SUPPORT. What a run of updates leaves in memory, read off the outputs it added: the byte last written to an address
that plain memory backs, and the old byte at any other (R85, R470). -/

namespace Sys2Proof.Machine

/-! ### The last write among the outputs -/

@[simp] theorem lastWrite_report (a : Word) (n : Nat) (es : List Event) :
    lastWrite a (.report n :: es) = lastWrite a es := rfl

theorem lastWrite_readEvent {k : AccessKind} (hk : k ≠ .write) (a b : Word) (v : Byte) (es : List Event) :
    lastWrite a (readEvent k b v :: es) = lastWrite a es := by
  cases k with
  | fetch | read => rfl
  | write => exact absurd rfl hk

theorem lastWrite_write_same (a : Word) (v : Byte) (es : List Event) : lastWrite a (.write a v :: es) = some v :=
  if_pos rfl

theorem lastWrite_write_other {a b : Word} (h : b ≠ a) (v : Byte) (es : List Event) :
    lastWrite a (.write b v :: es) = lastWrite a es := if_neg h

/-! ### Reads of readable plain memory -/

/-- R71: readable plain memory answers with the byte it holds. -/
theorem State.readAnswer_of_memory {a : Word} {s : State} (hb : (s.region a).backing = .memory)
    (hr : (s.region a).rejectsReads = false) : s.readAnswer a = some (s.byteAt a) := by
  simp [State.readAnswer, hb, hr]

theorem State.countAccess_of_memory {a : Word} {s : State} (hb : (s.region a).backing = .memory) :
    s.countAccess a = s := by
  simp [State.countAccess, hb]

/-- R88: a fetch from readable plain memory continues with the byte held, and changes only the record. -/
theorem fetchByte_of_memory {a : Word} {s : State} (hb : (s.region a).backing = .memory)
    (hr : (s.region a).rejectsReads = false) (next : Byte → State → Result) :
    fetchByte a s next = next (s.byteAt a) (s.emit (.fetch a (s.byteAt a))) := by
  rw [fetchByte, busRead_of_answer (State.readAnswer_of_memory hb hr), State.countAccess_of_memory hb]
  rfl

/-! ### Memory and the record -/

/-- The byte `a` holds once the writes among the outputs `es` have been made from `s`: plain memory takes the last one
(R85), and nothing else keeps any of them (R470). -/
def byteAfter (a : Word) (es : List Event) (s : State) : Byte :=
  if (s.region a).backing = .memory then (lastWrite a es).getD (s.byteAt a) else s.byteAt a

theorem byteAfter_of_lastWrite {a : Word} {es : List Event} {s : State} {v : Byte} (hw : lastWrite a es = some v)
    (hb : (s.region a).backing = .memory) : byteAfter a es s = v := by
  simp [byteAfter, hw, hb]

theorem byteAfter_of_no_write {a : Word} {es : List Event} {s : State} (hw : lastWrite a es = none) :
    byteAfter a es s = s.byteAt a := by
  simp [byteAfter, hw]

theorem byteAfter_congr {a : Word} {es es' : List Event} (s : State) (h : lastWrite a es' = lastWrite a es) :
    byteAfter a es' s = byteAfter a es s := by
  rw [byteAfter, byteAfter, h]

/-- From `s` to `x` the outputs `es` were added, the platform stayed, and memory holds what their writes left in it. -/
structure MemoryFollows (s x : State) (es : List Event) : Prop where
  trace : x.trace = es ++ s.trace
  region : ∀ a, x.region a = s.region a
  byteAt : ∀ a, x.byteAt a = byteAfter a es s

section
variable {s x y : State} {es : List Event}

theorem MemoryFollows.refl (s : State) : MemoryFollows s s [] :=
  ⟨rfl, fun _ => rfl, fun _ => (byteAfter_of_no_write rfl).symm⟩

/-- A change that leaves the record, the platform and memory alone. -/
theorem MemoryFollows.of_same (h : MemoryFollows s x es) (ht : y.trace = x.trace)
    (hr : ∀ a, y.region a = x.region a) (hb : ∀ a, y.byteAt a = x.byteAt a) : MemoryFollows s y es :=
  ⟨ht.trans h.trace, fun a => (hr a).trans (h.region a), fun a => (hb a).trans (h.byteAt a)⟩

/-- An output that is no write. -/
theorem MemoryFollows.emit (h : MemoryFollows s x es) {e : Event}
    (he : ∀ a, lastWrite a (e :: es) = lastWrite a es) : MemoryFollows s (x.emit e) (e :: es) :=
  ⟨congrArg (e :: ·) h.trace, h.region, fun a => (h.byteAt a).trans (byteAfter_congr s (he a)).symm⟩

theorem MemoryFollows.countAccess (h : MemoryFollows s x es) (a : Word) : MemoryFollows s (x.countAccess a) es :=
  h.of_same (by simp) (by simp) (by simp)

/-- A completed write: its address takes the byte if plain memory backs it, and every other address keeps its own. -/
theorem MemoryFollows.write (h : MemoryFollows s x es) (a : Word) (v : Byte) :
    MemoryFollows s (((x.store a v).countAccess a).emit (.write a v)) (.write a v :: es) := by
  refine ⟨by simp [h.trace], fun b => by simp [h.region], fun b => ?_⟩
  simp only [State.emit_byteAt, State.countAccess_byteAt]
  by_cases hba : b = a
  · subst hba
    simp only [State.byteAt_store_same, h.region, h.byteAt, byteAfter, lastWrite_write_same, Option.getD_some]
    split <;> rfl
  · rw [State.byteAt_store_other v x hba, h.byteAt, byteAfter_congr s (lastWrite_write_other (Ne.symm hba) v es)]

theorem MemoryFollows.update (hxy : Update StepControlWrite x y) (h : MemoryFollows s x es) :
    ∃ es', MemoryFollows s y es' := by
  cases hxy with
  | read k a v _ hk => exact ⟨_, (h.countAccess a).emit fun b => lastWrite_readEvent hk b a v es⟩
  | write a v => exact ⟨_, h.write a v⟩
  | control hw =>
    obtain ⟨enabled, pending, run, rfl⟩ := hw.only_control
    exact ⟨es, h.of_same rfl (fun _ => rfl) (fun _ => rfl)⟩
  | setPc | setReg8 | setPair | setFlags | setF => exact ⟨es, h.of_same (by simp) (by simp) (by simp)⟩

theorem MemoryFollows.finishes (h : MemoryFollows s x es) (hfin : Finishes x y) : ∃ es', MemoryFollows s y es' := by
  cases hfin with
  | report n => exact ⟨.report n :: es, by simp [h.trace], by simp [h.region], by simp [h.byteAt, byteAfter]⟩
  | readFault k a | writeFault a => exact ⟨es, (h.countAccess a).of_same (by simp) (by simp) (by simp)⟩

end

/-- Every instruction leaves in memory what the writes it put on record left there. -/
theorem exec_memoryFollows {i : Instr} {s t : State} {es : List Event} (hexec : exec i s = .next t)
    (htrace : t.trace = es ++ s.trace) : MemoryFollows s t es := by
  have start : Reaches StepControlWrite s s := .refl
  obtain ⟨u, hreach, hfin⟩ := start.exec i t hexec
  obtain ⟨es₁, hu⟩ : ∃ es₁, MemoryFollows s u es₁ :=
    hreach.keeps (P := fun x => ∃ es₁, MemoryFollows s x es₁) (fun _ _ hxy ⟨_, hx⟩ => hx.update hxy) ⟨[], .refl s⟩
  obtain ⟨es₂, ht⟩ := hu.finishes hfin
  obtain rfl : es₂ = es := List.append_cancel_right (ht.trace.symm.trans htrace)
  exact ht

/-- Settles O59: memory follows the writes on record, so readable plain memory answers a read or a fetch with the last
of them. -/
theorem fetchSeesEarlierStores : Obligations.FetchSeesEarlierStores := by
  intro i s t es a hexec htrace
  obtain ⟨-, hregion, hbyte⟩ := exec_memoryFollows hexec htrace
  refine ⟨fun v hw hb hr => ?_, fun hw => (hbyte a).trans (byteAfter_of_no_write hw)⟩
  obtain rfl : t.byteAt a = v := (hbyte a).trans (byteAfter_of_lastWrite hw hb)
  rw [← hregion a] at hb hr
  exact ⟨State.readAnswer_of_memory hb hr, fetchByte_of_memory hb hr⟩

end Sys2Proof.Machine
end

section
/-! SUPPORT. The decoder against the encoder (30_encoding.md R100, R111 to R116): what a decode takes from its bytes,
the format of every first byte, and the two directions of the round trip. -/

namespace Sys2Proof.Machine

/-! ### What a decode takes from its bytes -/

section
variable {bs rest : List Byte} {i : Instr}

@[simp] theorem Decoding.feed_done (i : Instr) (bs : List Byte) : (Decoding.done i).feed bs = .ok (i, bs) := rfl

@[simp] theorem Decoding.feed_imm8 {mk : Byte → Instr} :
    (imm8 mk).feed bs = .ok (i, rest) ↔ ∃ n, bs = n :: rest ∧ mk n = i := by
  rcases bs with - | ⟨n, bs⟩ <;> simp [imm8, Decoding.feed, and_comm, eq_comm]

@[simp] theorem Decoding.feed_imm16 {mk : Word → Instr} :
    (imm16 mk).feed bs = .ok (i, rest) ↔ ∃ lo hi, bs = lo :: hi :: rest ∧ mk (wordOfBytes hi lo) = i := by
  rcases bs with - | ⟨lo, - | ⟨hi, bs⟩⟩ <;> simp [imm16, Decoding.feed, and_comm, eq_comm]

/-- A decode begins with a first byte (R141). -/
theorem decode_eq_ok : decode bs = .ok (i, rest) ↔
    ∃ op tail, bs = op :: tail ∧ (decodeFrom op).feed tail = .ok (i, rest) := by
  cases bs <;> simp [decode]

/-! ### The format of every first byte -/

/-- R100, R116: what the first byte `op` selects takes 0, 1 or 2 further bytes, and each instruction it then answers is
encoded as `op` and those bytes. -/
inductive Format (op : Byte) : Decoding → Prop
  | p1 {i : Instr} (h : encode i = [op]) : Format op (.done i)
  | p2 {mk : Byte → Instr} (h : ∀ n, encode (mk n) = [op, n]) : Format op (imm8 mk)
  | p3 {mk : Word → Instr} (h : ∀ n, encode (mk n) = [op, loByte n, hiByte n]) : Format op (imm16 mk)

/-- R111: an entry of the primary map is in one format only, which `constructor` finds; its encoding computes. -/
theorem primaryEntry_format (op : Byte) : Format op (primaryEntry op) := by
  obtain ⟨n, hn, rfl⟩ : ∃ n < 256, op = BitVec.ofNat 8 n := ⟨op.toNat, op.isLt, by simp⟩
  interval_cases n <;> constructor <;> intros <;> rfl

theorem encode_cbEntry : ∀ s : Byte, encode (cbEntry s) = [0xCB, s] := by decide

/-- R114: 0xCB takes the second byte of its row as a format P2 row takes its operand. -/
theorem decodeFrom_format (op : Byte) : Format op (decodeFrom op) := by
  by_cases hop : op = 0xCB
  · subst hop
    exact .p2 encode_cbEntry
  · rw [decodeFrom, if_neg hop]
    exact primaryEntry_format op

section
variable {op : Byte} {d : Decoding}

theorem Format.encode_of_feed (hd : Format op d) (h : d.feed bs = .ok (i, rest)) :
    ∃ operands, encode i = op :: operands ∧ bs = operands ++ rest ∧ operands.length ≤ 2 := by
  cases hd with
  | p1 henc =>
    cases h
    exact ⟨[], henc, rfl, by simp⟩
  | p2 henc =>
    obtain ⟨n, rfl, rfl⟩ := Decoding.feed_imm8.mp h
    exact ⟨[n], henc n, rfl, by simp⟩
  | p3 henc =>
    obtain ⟨lo, hi, rfl, rfl⟩ := Decoding.feed_imm16.mp h
    exact ⟨[lo, hi], by simp [henc], rfl, by simp⟩

theorem Format.feed_total (hd : Format op d) (h : 2 ≤ bs.length) : ∃ i rest, d.feed bs = .ok (i, rest) := by
  match bs, h with
  | lo :: hi :: bs, _ => cases hd <;> exact ⟨_, _, rfl⟩

end

/-! ### Decoding the encoding -/

theorem decode_imm16 {op : Byte} {mk : Word → Instr} (h : decodeFrom op = imm16 mk) (n : Word) (rest : List Byte) :
    decode (op :: loByte n :: hiByte n :: rest) = .ok (mk n, rest) := by
  simp [decode, h]

/-- Only a word operand is rebuilt by the decoder (R73); everything else is read off the maps. -/
theorem decode_encode_append (h : i.wellFormed = true) (rest : List Byte) :
    decode (encode i ++ rest) = .ok (i, rest) := by
  cases i
  case prefixCb => exact absurd h (by decide)
  case ldBC_d16 n | ldDE_d16 n | ldHL_d16 n | ldSP_d16 n | ldMemA16_SP n | ldMemA16_A n | ldA_MemA16 n | jpA16 n |
      jpNZ_a16 n | jpZ_a16 n | jpNC_a16 n | jpC_a16 n | callA16 n | callNZ_a16 n | callZ_a16 n | callNC_a16 n |
      callC_a16 n => exact decode_imm16 rfl n rest
  all_goals rfl

/-! ### Encoding the decoded -/

theorem eq_encode_append_of_decode (h : decode bs = .ok (i, rest)) : bs = encode i ++ rest := by
  obtain ⟨op, tail, rfl, hfeed⟩ := decode_eq_ok.mp h
  obtain ⟨operands, henc, rfl, -⟩ := (decodeFrom_format op).encode_of_feed hfeed
  rw [henc, List.cons_append]

/-- R147: the bytes of a decoded placeholder would be 0xCB and the rest, but after 0xCB a decode takes one more byte. -/
theorem ne_prefixCb_of_decode (h : decode bs = .ok (i, rest)) : i ≠ .prefixCb := by
  rintro rfl
  obtain rfl := eq_encode_append_of_decode h
  obtain ⟨s, hrest, -⟩ := Decoding.feed_imm8.mp h
  exact List.cons_ne_self s rest hrest.symm

/-! ### Lengths -/

/-- R120: the table's length of every instruction is that of its encoding. -/
theorem encode_length (i : Instr) : (encode i).length = (descriptor i).length := by
  cases i <;> rfl

theorem descriptor_eq_lookup {op : Byte} {operands : List Byte} (henc : encode i = op :: operands) (hop : op ≠ 0xCB) :
    descriptor i = lookup false op := by
  cases operands <;> simp only [descriptor, henc, if_neg hop]

/-- R116: the first byte fixes the length of the instruction it begins. -/
theorem encode_length_of_feed {op : Byte} (h : (decodeFrom op).feed bs = .ok (i, rest)) :
    (encode i).length = if op = 0xCB then 2 else (lookup false op).length := by
  split
  next hop =>
    subst hop
    obtain ⟨s, -, rfl⟩ := Decoding.feed_imm8.mp h
    rw [encode_cbEntry, List.length_cons, List.length_singleton]
  next hop =>
    obtain ⟨operands, henc, -, -⟩ := (decodeFrom_format op).encode_of_feed h
    rw [encode_length, descriptor_eq_lookup henc hop]

end

/-! ### The statements -/

/-- Settles O1, by cases on the instruction: a word operand comes back as its two bytes, everything else is read off the
maps. -/
theorem decodeOfEncodeIsTheInstruction : Obligations.DecodeOfEncodeIsTheInstruction :=
  fun _ rest h => decode_encode_append h rest

/-- Settles O2: the format of the first byte gives back the bytes a decode took, and none ends in the placeholder. -/
theorem encodeOfDecodeIsTheBytes : Obligations.EncodeOfDecodeIsTheBytes :=
  fun _ _ _ h => ⟨decide_eq_true (ne_prefixCb_of_decode h), eq_encode_append_of_decode h⟩

/-- Settles O3: two bytes feed every format, and what the decode took is the encoding, whose length the table gives. -/
theorem firstByteFixesTheLength : Obligations.FirstByteFixesTheLength := by
  intro op bs hbs
  obtain ⟨i, rest, hfeed⟩ := (decodeFrom_format op).feed_total hbs
  obtain ⟨operands, henc, hsplit, hlen⟩ := (decodeFrom_format op).encode_of_feed hfeed
  refine ⟨i, rest, hfeed, ne_prefixCb_of_decode (bs := op :: bs) hfeed, ?_, encode_length i, ?_⟩
  · rw [← encode_length_of_feed hfeed, henc, hsplit, ← List.cons_append, List.length_append, Nat.add_comm]
  · simp only [henc, List.length_cons, List.mem_cons, List.not_mem_nil]
    omega

/-- Settles O4: the decoder run on each word. -/
theorem wordsOfEachFamilyDecode : Obligations.WordsOfEachFamilyDecode :=
  ⟨rfl, rfl, rfl, rfl, rfl, rfl, rfl, rfl, rfl, rfl, rfl, rfl, rfl, rfl⟩

end Sys2Proof.Machine
end

section
/-! SUPPORT. What every instruction adds to the cycle count, against the table's counts (R120, R144). -/

namespace Sys2Proof.Machine

/-- The counts of an instruction's table entry: the base count, and the branch-taken count where there is one (R120). -/
def cycleCounts (i : Instr) : List Nat := (descriptor i).cycles :: (descriptor i).cyclesTaken.toList

theorem mem_cycleCounts {i : Instr} {n : Nat} :
    n ∈ cycleCounts i ↔ n = (descriptor i).cycles ∨ (descriptor i).cyclesTaken = some n := by
  simp [cycleCounts]

/-- If the instruction meets no fault, what it leaves in `cycles` is `start` and one of `counts` added. -/
def Adds (counts : List Nat) (start : Nat) (r : Result) : Prop :=
  ∀ t, r = .next t → t.fault = none → ∃ n ∈ counts, t.cycles = start + n

section
variable {counts : List Nat} {start : Nat} {s : State}

theorem adds_complete {n : Nat} (hs : s.cycles = start) (hn : n ∈ counts) : Adds counts start (complete n s) := by
  intro t ht _
  obtain rfl := complete_next.1 ht
  exact ⟨n, hn, by simp [hs]⟩

theorem adds_ite {b : Bool} {r q : Result} (hr : Adds counts start r) (hq : Adds counts start q) :
    Adds counts start (if b then r else q) := by
  cases b
  · exact hq
  · exact hr

theorem adds_memRead {a : Word} {next : Byte → State → Result} (hs : s.cycles = start)
    (hnext : ∀ v s1, s1.cycles = start → Adds counts start (next v s1)) :
    Adds counts start (memRead a s next) := by
  intro t ht hf
  obtain ⟨-, rfl⟩ | ⟨v, -, ht⟩ := memRead_next.1 ht
  · simp at hf
  · exact hnext v _ (by simp [hs]) t ht hf

theorem adds_memWrite {a : Word} {v : Byte} {next : State → Result} (hs : s.cycles = start)
    (hnext : ∀ s1, s1.cycles = start → Adds counts start (next s1)) :
    Adds counts start (memWrite a v s next) := by
  intro t ht hf
  obtain ⟨-, rfl⟩ | ⟨-, ht⟩ := memWrite_next.1 ht
  · simp at hf
  · exact hnext _ (by simp [hs]) t ht hf

theorem adds_push16 {v : Word} {next : State → Result} (hs : s.cycles = start)
    (hnext : ∀ s1, s1.cycles = start → Adds counts start (next s1)) : Adds counts start (push16 v s next) := by
  unfold push16
  exact adds_memWrite hs fun _ h1 => adds_memWrite h1 hnext

theorem adds_pop16 {next : Word → State → Result} (hs : s.cycles = start)
    (hnext : ∀ v s1, s1.cycles = start → Adds counts start (next v s1)) : Adds counts start (pop16 s next) := by
  unfold pop16
  exact adds_memRead hs fun _ _ h1 => adds_memRead h1 fun _ _ h2 => hnext _ _ h2

theorem adds_loadByte {r : Reg8} {a : Word} {len n : Nat} (hn : n ∈ counts) :
    Adds counts s.cycles (loadByte r a len n s) :=
  adds_memRead rfl fun _ _ h1 => adds_complete (by simp [h1]) hn

theorem adds_storeByte {a : Word} {v : Byte} {len n : Nat} (hn : n ∈ counts) :
    Adds counts s.cycles (storeByte a v len n s) :=
  adds_memWrite rfl fun _ h1 => adds_complete h1 hn

theorem adds_callTo {target : Word} {len n : Nat} (hn : n ∈ counts) :
    Adds counts s.cycles (callTo target len n s) :=
  adds_push16 rfl fun _ h1 => adds_complete h1 hn

theorem adds_returnIn {n : Nat} (hn : n ∈ counts) : Adds counts s.cycles (returnIn n s) :=
  adds_pop16 rfl fun _ _ h1 => adds_complete h1 hn

end

theorem illegal_cycleCounts : ∀ i ∈ illegalInstrs, 4 ∈ cycleCounts i := by decide

/-- Every meaning ends, if no access is rejected, by completing in one of its table's counts; nothing before that
touches `cycles`. In the list of counts `.head _` is the base count, and `.tail _ (.head _)` the branch-taken one. -/
theorem meaning_adds_cycleCounts {m : State → Result} {i : Instr} (h : Meaning m i) (s : State) :
    Adds (cycleCounts i) s.cycles (m s) := by
  cases h
  case loadRegReg dst src => exact adds_complete (by simp) (by cases dst <;> cases src <;> decide)
  case loadRegImm r n => exact adds_complete (by simp) (by cases r <;> exact .head _)
  case loadRegHl r => exact adds_loadByte (by cases r <;> decide)
  case loadABc | loadADe | loadAHigh | loadAHighC | loadAAbs => exact adds_loadByte (.head _)
  case loadAInc | loadADec => exact adds_memRead rfl fun v s1 h1 => adds_complete (by simp [h1]) (.head _)
  case storeHlReg r => exact adds_storeByte (by cases r <;> decide)
  case storeHlImm | storeABc | storeADe | storeAHigh | storeAHighC | storeAAbs => exact adds_storeByte (.head _)
  case storeAInc | storeADec => exact adds_memWrite rfl fun s1 h1 => adds_complete (by simp [h1]) (.head _)
  case loadPairImm rr n => exact adds_complete (by simp) (by cases rr <;> exact .head _)
  case loadSpHl | loadHlSpOffset | addSpOffset => exact adds_complete (by simp) (.head _)
  case storeSp => exact adds_memWrite rfl fun s1 h1 => adds_memWrite h1 fun s2 h2 => adds_complete h2 (.head _)
  case pushPair rr => exact adds_push16 rfl fun s1 h1 => adds_complete h1 (by cases rr <;> decide)
  case popPair rr => exact adds_pop16 rfl fun v s1 h1 => adds_complete (by simp [h1]) (by cases rr <;> decide)
  case aluReg op r => exact adds_complete (by simp) (by cases op <;> cases r <;> decide)
  case aluMem op => exact adds_memRead rfl fun v s1 h1 => adds_complete (by simp [h1]) (by cases op <;> decide)
  case aluImm op n => exact adds_complete (by simp) (by cases op <;> exact .head _)
  case incReg r | decReg r => exact adds_complete (by simp) (by cases r <;> decide)
  case incMem | decMem =>
    exact adds_memRead rfl fun v s1 h1 => adds_memWrite h1 fun s2 h2 => adds_complete (by simp [h2]) (.head _)
  case adjustDecimal | complementA | setCarry | complementCarry => exact adds_complete (by simp) (.head _)
  case addHlPair rr | incPair rr | decPair rr => exact adds_complete (by simp) (by cases rr <;> decide)
  case rotateALeftCircular | rotateARightCircular | rotateALeft | rotateARight =>
    exact adds_complete (by simp) (.head _)
  case rotateReg op r => exact adds_complete (by simp) (by cases op <;> cases r <;> decide)
  case rotateMem op =>
    exact adds_memRead rfl fun v s1 h1 => adds_memWrite h1 fun s2 h2 =>
      adds_complete (by simp [h2]) (by cases op <;> decide)
  case testBitReg b r | resetBitReg b r | setBitReg b r =>
    exact adds_complete (by simp) (by cases r <;> revert b <;> decide)
  case testBitMem b =>
    exact adds_memRead rfl fun v s1 h1 => adds_complete (by simp [h1]) (by revert b; decide)
  case resetBitMem b | setBitMem b =>
    exact adds_memRead rfl fun v s1 h1 => adds_memWrite h1 fun s2 h2 => adds_complete h2 (by revert b; decide)
  case jumpAbs | jumpHl | jumpRel => exact adds_complete rfl (.head _)
  case jumpAbsIf cc _ | jumpRelIf cc _ =>
    exact adds_ite (adds_complete rfl (by cases cc <;> exact .tail _ (.head _)))
      (adds_complete rfl (by cases cc <;> exact .head _))
  case call => exact adds_callTo (.head _)
  case callIf cc n =>
    exact adds_ite (adds_callTo (by cases cc <;> exact .tail _ (.head _)))
      (adds_complete rfl (by cases cc <;> exact .head _))
  case restart t => exact adds_callTo (by revert t; decide)
  case ret => exact adds_returnIn (.head _)
  case returnIf cc =>
    exact adds_ite (adds_returnIn (by cases cc <;> decide)) (adds_complete rfl (by cases cc <;> decide))
  case reti => exact adds_pop16 rfl fun v s1 h1 => adds_complete h1 (.head _)
  case nop | prefixCb | stop | halt | di | ei => exact adds_complete rfl (.head _)
  case illegal hi => exact adds_complete rfl (illegal_cycleCounts i hi)

/-- Settles O17: exec of every instruction is one of the meanings, and each adds a count of the instruction's entry. -/
theorem cyclesAreTheDescriptors : Obligations.CyclesAreTheDescriptors := by
  intro i s t _ hexec hfault
  obtain ⟨n, hn, hcycles⟩ := meaning_adds_cycleCounts (exec_meaning i) s t hexec hfault
  obtain rfl | htaken := mem_cycleCounts.mp hn
  · exact .inl hcycles
  · exact .inr ⟨n, htaken, hcycles⟩

end Sys2Proof.Machine
end

section
/-! SUPPORT. The boundary (40_dispatch.md): the host's move as the step of the core, the fetches of an instruction that
stands in readable memory, the end of a Running step, and what EI, DI and RETI leave of the interrupt enable. -/

namespace Sys2Proof.Machine

/-! ### The fetches of an instruction in readable memory -/

section
variable {a : Word} {s : State}

theorem State.readsPlain_iff :
    s.readsPlain a = true ↔ (s.region a).rejectsReads = false ∧ (s.region a).backing ≠ .device := by
  simp [State.readsPlain]

/-- R85: plain memory answers with the byte it holds, whether or not it keeps what is written to it. -/
theorem State.readAnswer_of_readsPlain (h : s.readsPlain a = true) : s.readAnswer a = some (s.byteAt a) := by
  obtain ⟨hr, hb⟩ := State.readsPlain_iff.mp h
  cases hm : (s.region a).backing with
  | memory | readOnly => simp [State.readAnswer, hr, hm]
  | device => exact absurd hm hb

theorem State.countAccess_of_readsPlain (h : s.readsPlain a = true) : s.countAccess a = s := by
  obtain ⟨-, hb⟩ := State.readsPlain_iff.mp h
  cases hm : (s.region a).backing with
  | memory | readOnly => simp [State.countAccess, hm]
  | device => exact absurd hm hb

theorem fetchByte_of_readsPlain (h : s.readsPlain a = true) (next : Byte → State → Result) :
    fetchByte a s next = next (s.byteAt a) (s.emit (.fetch a (s.byteAt a))) := by
  rw [fetchByte, busRead_of_answer (State.readAnswer_of_readsPlain h), State.countAccess_of_readsPlain h]
  rfl

end

/-- What stands in memory depends on the bus map and memory alone. -/
theorem HoldsBytes.congr {bs : List Byte} {a : Word} {s t : State} (h : HoldsBytes bs a s) (hb : t.busMap = s.busMap)
    (hm : t.mem = s.mem) : HoldsBytes bs a t := by
  induction bs generalizing a with
  | nil => trivial
  | cons v bs ih =>
    obtain ⟨hplain, hbyte, hrest⟩ := h
    have hregion : t.region a = s.region a := by simp only [State.region, hb]
    refine ⟨?_, ?_, ih hrest⟩
    · rwa [State.readsPlain, hregion]
    · rwa [State.byteAt, hm]

/-- R141, R142: the fetches of the bytes a decode takes change only the record, and give the instruction decoded. -/
theorem fetchRest_of_holdsBytes {i : Instr} {bs : List Byte} {a : Word} {s : State}
    (next : Instr → State → Result) {d : Decoding} (hfeed : d.feed bs = .ok (i, [])) (hbytes : HoldsBytes bs a s) :
    fetchRest d a s next = next i { s with trace := fetchEvents bs a s.trace } := by
  induction d generalizing bs a s with
  | done j =>
    obtain ⟨rfl, rfl⟩ := Prod.mk.inj (Except.ok.inj hfeed)
    rfl
  | more more ih =>
    cases bs with
    | nil => cases hfeed
    | cons v bs =>
      obtain ⟨hplain, rfl, hrest⟩ := hbytes
      rw [fetchRest, fetchByte_of_readsPlain hplain]
      exact ih _ hfeed (hrest.congr rfl rfl)

theorem fetchInstr_of_holdsBytes {i : Instr} {bs : List Byte} {s : State} (next : Instr → State → Result)
    (hdecode : decode bs = .ok (i, [])) (hbytes : HoldsBytes bs s.pc s) :
    fetchInstr s next = next i { s with trace := fetchEvents bs s.pc s.trace } := by
  obtain ⟨op, tail, rfl, hfeed⟩ := decode_eq_ok.mp hdecode
  obtain ⟨hplain, rfl, hrest⟩ := hbytes
  rw [fetchInstr, fetchByte_of_readsPlain hplain]
  exact fetchRest_of_holdsBytes next hfeed (hrest.congr rfl rfl)

/-! ### The host's move and the end of a Running step -/

section
variable {s : State} {wake stopReq : Bool} {rest : List HostMove}

theorem unlessFaulted_of_none {r : Result} (h : s.fault = none) : unlessFaulted s r = r := by
  rw [unlessFaulted, h]

theorem unlessFaulted_of_some {r : Result} {record : BusFault} (h : s.fault = some record) :
    unlessFaulted s r = .fault (.busFault record) := by
  rw [unlessFaulted, h]

theorem step_of_no_move (h : s.host = []) : step s = unlessFaulted s (coreStep false false s) := by
  rw [step, nextMove, h]

theorem step_of_step_move (h : s.host = .step wake stopReq :: rest) :
    step s = unlessFaulted s (coreStep wake stopReq { s with host := rest }) := by
  simp only [step, nextMove, h]

theorem step_of_entry_move {v : Word} (h : s.host = .interruptEntry v :: rest) :
    step s = hostEntry v { s with host := rest } := by
  simp only [step, nextMove, h]

/-- R140, R470: when the host's next move is a step without a stop request, it is taken from the rest of the moves. -/
theorem step_of_nextMoveIsStep (hfault : s.fault = none) (hmove : NextMoveIsStep wake rest s) :
    step s = coreStep wake false { s with host := rest } := by
  obtain ⟨hhost, rfl, rfl⟩ | hhost := hmove
  · have hs : ({ s with host := [] } : State) = s := by rw [← hhost]
    rw [step_of_no_move hhost, unlessFaulted_of_none hfault, hs]
  · rw [step_of_step_move hhost, unlessFaulted_of_none hfault]

theorem step_of_running (hfault : s.fault = none) (hrun : s.run = .running) (hmove : NextMoveIsStep wake rest s) :
    step s = runningStep { s with host := rest } := by
  simp only [step_of_nextMoveIsStep hfault hmove, coreStep, hrun, Bool.false_eq_true, if_false]

theorem step_of_halted (hfault : s.fault = none) (hrun : s.run = .halted) (hmove : NextMoveIsStep wake rest s) :
    step s = haltedStep wake { s with host := rest } := by
  simp only [step_of_nextMoveIsStep hfault hmove, coreStep, hrun, Bool.false_eq_true, if_false]

end

theorem promoteIme_eq (pending : Bool) (u : State) : promoteIme pending u =
    { u with ime := u.ime || (pending && u.imePending), imePending := u.imePending && !pending } := by
  obtain ⟨a, f, b, c, d, e, h, l, sp, pc, ime, imePending⟩ := u
  cases pending <;> cases imePending <;> simp [promoteIme, State.setIme]

/-- A Running step that met no fault ends with the promotion of what was pending (R145). -/
theorem endStep_next {pending : Bool} {r : Result} {t : State} (h : endStep pending r = .next t)
    (hfault : t.fault = none) : ∃ u, r = .next u ∧ u.fault = none ∧ t = promoteIme pending u := by
  cases r with
  | fault | refused => cases h
  | next u =>
    obtain rfl := Host.Outcome.next.inj h
    split at hfault
    next hu => exact ⟨u, rfl, hu, if_pos hu⟩
    next hu => exact absurd hfault hu

/-- Settles O6: the promotion, field by field. -/
theorem delayedEnableAtEndOfStep : Obligations.DelayedEnableAtEndOfStep := by
  intro pending u
  refine ⟨fun hfault => ?_, fun hfault => ?_⟩
  · rw [endStep, if_pos hfault, promoteIme_eq]
  · rw [endStep, if_neg hfault]

/-- Settles O5: the step is a Running step of the core, and its fetches give the decoded instruction. -/
theorem stepRunsTheDecodedInstruction : Obligations.StepRunsTheDecodedInstruction := by
  intro s i bs wake rest hfault hrun hmove hdecode hbytes
  have held : HoldsBytes bs s.pc { s with host := rest } := hbytes.congr rfl rfl
  rw [step_of_running hfault hrun hmove, runningStep, fetchInstr_of_holdsBytes _ hdecode held]

/-- Settles O7: a Halted step of the core. -/
theorem haltedStepsWaitForWake : Obligations.HaltedStepsWaitForWake := by
  intro s wake rest hfault hrun hmove
  rw [step_of_halted hfault hrun hmove]
  cases wake <;> rfl

/-- Settles O8: a stop request answers before the core's step, a recorded fault before both, and entry is not allowed
while one is recorded. -/
theorem stopRequestAndFaultEndTheRun : Obligations.StopRequestAndFaultEndTheRun := by
  refine ⟨fun s wake rest hfault hhost => ?_, fun s r hfault => ⟨fun wake stopReq rest hhost => ?_, ?_⟩⟩
  · rw [step_of_step_move hhost, unlessFaulted_of_none hfault]
    rfl
  · obtain hhost | hhost := hhost
    · rw [step_of_no_move hhost, unlessFaulted_of_some hfault]
    · rw [step_of_step_move hhost, unlessFaulted_of_some hfault]
  · intro v rest hhost
    have barred : ({ s with host := rest } : State).entryAllowed = false := by simp [State.entryAllowed, hfault]
    rw [step_of_entry_move hhost, hostEntry, barred]
    rfl

/-! ### The delayed enable -/

theorem exec_di (s : State) : exec .di s = complete 4 ((s.advance 1).setIme false false) := rfl

theorem exec_ei (s : State) : exec .ei s = complete 4 ((s.advance 1).setIme s.ime true) := rfl

theorem exec_reti (s : State) : exec .reti s = returnFromInterrupt (s.advance 1) := rfl

section
variable {s t : State}

/-- R423: DI disables at once, and drops a pending enable. -/
theorem exec_di_next (h : exec .di s = .next t) : t.ime = false ∧ t.imePending = false := by
  rw [exec_di, complete_next] at h
  simp [h]

/-- R424: EI leaves the enable pending, and interrupts as they were. -/
theorem exec_ei_next (h : exec .ei s = .next t) :
    t.ime = s.ime ∧ t.imePending = true ∧ t.run = s.run ∧ t.host = s.host := by
  rw [exec_ei, complete_next] at h
  simp [h]

/-- R389: a return from interrupt that meets no fault enables at once. -/
theorem exec_reti_next (h : exec .reti s = .next t) (hfault : t.fault = none) : t.ime = true := by
  rw [exec_reti, returnFromInterrupt, pop16_next] at h
  obtain ⟨-, rfl⟩ | ⟨lo, -, ⟨-, rfl⟩ | ⟨hi, -, h⟩⟩ := h
  · simp at hfault
  · simp at hfault
  · simp [complete_next.1 h]

/-- An instruction run while an enable is pending leaves interrupts enabled or the enable pending, unless it is DI. -/
theorem exec_ime_or_imePending {i : Instr} (h : exec i s = .next t) (hfault : t.fault = none)
    (hpending : s.imePending = true) : (t.ime || t.imePending) = true ↔ i ≠ .di := by
  by_cases hi : i = .di
  · subst hi
    simp [exec_di_next h]
  · have enabled : t.ime = true ∨ t.imePending = true := by
      obtain ⟨-, hkept | rfl | rfl | rfl, -⟩ := onlyTheNamedInstructionsWriteControlState i s t h
      · exact .inr (hkept.trans hpending)
      · exact absurd rfl hi
      · exact .inl (exec_reti_next h hfault)
      · obtain ⟨-, pending, -⟩ := exec_ei_next h
        exact .inr pending
    simp [enabled, hi]

end

/-- Settles O60: the step that runs EI ends with the enable pending, none having been pending at its start; the next
step finds it pending and promotes it at its end, unless DI cleared it. -/
theorem eiTakesEffectAfterTheNextInstruction : Obligations.EiTakesEffectAfterTheNextInstruction := by
  intro s u t i bs hfault hrun hhost hime hpending hbytes hfirst hu
  rw [stepRunsTheDecodedInstruction s .ei [0xFB] false [] hfault hrun (.inl ⟨hhost, rfl, rfl⟩) rfl hbytes,
    hpending] at hfirst
  obtain ⟨u, hei, -, rfl⟩ := endStep_next hfirst hu
  obtain ⟨uime, upending, urun, uhost⟩ := exec_ei_next hei
  refine ⟨uime.trans hime, upending, fun hdecode hheld hsecond ht => ?_⟩
  rw [stepRunsTheDecodedInstruction _ i bs false [] hu (urun.trans hrun) (.inl ⟨uhost, rfl, rfl⟩) hdecode hheld]
    at hsecond
  obtain ⟨v, hexec, hv, rfl⟩ := endStep_next hsecond ht
  have promoted := exec_ime_or_imePending hexec hv upending
  rw [upending, promoteIme_eq]
  exact ⟨Bool.and_false _, promoted⟩

end Sys2Proof.Machine
end

section
/-! SUPPORT. 8-bit loads and stores (41_load8.md R200 to R218): the encoding and the meaning of each form, what an
update of a register or of HL leaves out of the bus's sight, and how a load and a store of one byte complete. -/

namespace Sys2Proof.Machine

/-! ### The forms -/

theorem encode_formLdRegReg (dst src : Reg8) :
    encode (formLdRegReg dst src) = [BitVec.ofNat 8 (0x40 + 8 * dst.field + src.field)] := by
  cases dst <;> cases src <;> rfl

theorem encode_formLdRegImm (r : Reg8) (n : Byte) :
    encode (formLdRegImm r n) = [BitVec.ofNat 8 (0x06 + 8 * r.field), n] := by
  cases r <;> rfl

theorem encode_formLdRegHl (r : Reg8) : encode (formLdRegHl r) = [BitVec.ofNat 8 (0x46 + 8 * r.field)] := by
  cases r <;> rfl

theorem encode_formLdHlReg (r : Reg8) : encode (formLdHlReg r) = [BitVec.ofNat 8 (0x70 + r.field)] := by
  cases r <;> rfl

theorem exec_formLdRegReg (dst src : Reg8) (s : State) : exec (formLdRegReg dst src) s = loadRegReg dst src s := by
  cases dst <;> cases src <;> rfl

theorem exec_formLdRegImm (r : Reg8) (n : Byte) (s : State) : exec (formLdRegImm r n) s = loadRegImm r n s := by
  cases r <;> rfl

theorem exec_formLdRegHl (r : Reg8) (s : State) : exec (formLdRegHl r) s = loadByte r s.hl 1 8 s := by
  cases r <;> rfl

theorem exec_formLdHlReg (r : Reg8) (s : State) : exec (formLdHlReg r) s = storeByte s.hl (s.reg8 r) 1 8 s := by
  cases r <;> rfl

/-- R107: the high page is the addresses whose high byte is 0xFF. -/
theorem highPage_eq_append (n : Byte) : highPage n = (0xFF : Byte) ++ n := by
  apply BitVec.eq_of_toNat_eq
  simp only [highPage, BitVec.toNat_append]
  rw [← Nat.shiftLeft_add_eq_or_of_lt n.isLt]
  simp only [BitVec.toNat_add, BitVec.toNat_setWidth, Nat.shiftLeft_eq, BitVec.reduceToNat]
  omega

theorem exec_ldhA_MemA8 (n : Byte) (s : State) :
    exec (.ldhA_MemA8 n) s = loadByte .a ((0xFF : Byte) ++ n) 2 12 s := by
  rw [← highPage_eq_append]; rfl

theorem exec_ldA_MemC (s : State) : exec .ldA_MemC s = loadByte .a ((0xFF : Byte) ++ s.reg8 .c) 1 8 s := by
  rw [← highPage_eq_append]; rfl

theorem exec_ldhMemA8_A (n : Byte) (s : State) :
    exec (.ldhMemA8_A n) s = storeByte ((0xFF : Byte) ++ n) (s.reg8 .a) 2 12 s := by
  rw [← highPage_eq_append]; rfl

theorem exec_ldMemC_A (s : State) :
    exec .ldMemC_A s = storeByte ((0xFF : Byte) ++ s.reg8 .c) (s.reg8 .a) 1 8 s := by
  rw [← highPage_eq_append]; rfl

/-! ### Updates the bus does not see -/

theorem Unseen.refl (s : State) : Unseen s s :=
  ⟨rfl, rfl, rfl, ⟨rfl, rfl⟩, ⟨rfl, rfl, rfl, rfl⟩, rfl, rfl⟩

theorem Unseen.setReg8 {s t : State} (r : Reg8) (v : Byte) (h : Unseen s t) : Unseen s (t.setReg8 r v) where
  pc := by simp [h.pc]
  cycles := by simp [h.cycles]
  trace := by simp [h.trace]
  platform := by simpa [SamePlatform] using h.platform
  control := by simpa [SameControl] using h.control
  memory := by simp [h.memory]
  accesses := by simp [h.accesses]

theorem Unseen.setPair {s t : State} (rr : Pair) (v : Word) (h : Unseen s t) : Unseen s (t.setPair rr v) := by
  cases rr
  case bc => exact (h.setReg8 .b (hiByte v)).setReg8 .c (loByte v)
  case de => exact (h.setReg8 .d (hiByte v)).setReg8 .e (loByte v)
  case hl => exact (h.setReg8 .h (hiByte v)).setReg8 .l (loByte v)
  case sp => exact ⟨h.pc, h.cycles, h.trace, h.platform, h.control, h.memory, h.accesses⟩

/-! ### HL written, and moved -/

@[simp] theorem State.setPair_hl_reg8 (v : Word) (s : State) (q : Reg8) :
    (s.setPair .hl v).reg8 q = if q = .h then hiByte v else if q = .l then loByte v else s.reg8 q := by
  cases q <;> rfl

@[simp] theorem State.setPair_hl_sp (v : Word) (s : State) : (s.setPair .hl v).sp = s.sp := rfl

/-- R110: H and L hold the old HL moved by `delta`, modulo 2^16. -/
def HlMoves (delta : Word) (s t : State) : Prop :=
  ∃ v : Word, v = (s.reg8 .h ++ s.reg8 .l) + delta ∧ t.reg8 .h = v.extractLsb' 8 8 ∧ t.reg8 .l = v.extractLsb' 0 8

/-- B, C, D and E hold what they held: the registers that no load or store with a PostOp writes. -/
def OtherReg8Kept (s t : State) : Prop := ∀ q : Reg8, q ≠ .h → q ≠ .l → q ≠ .a → t.reg8 q = s.reg8 q

/-! ### One access -/

section
variable {i : Instr} {len cyc : Nat} {a : State → Word}

theorem readsOnce_of_loadByte {r : Reg8} (h : ∀ s, exec i s = loadByte r (a s) len cyc s) :
    ReadsOnce i len cyc a fun v s t => Reg8Becomes r v s t ∧ t.f = s.f ∧ t.sp = s.sp :=
  readsOnce_intro h (fun v _ s1 => (Unseen.refl s1).setReg8 r v) fun v s => by simp [Reg8Becomes]

theorem writesOnce_of_storeByte {w : State → Byte} (h : ∀ s, exec i s = storeByte (a s) (w s) len cyc s) :
    WritesOnce i len cyc a w SameReg8 :=
  writesOnce_intro h (fun _ s1 => Unseen.refl s1) (fun _ _ => ⟨rfl, rfl⟩) fun s => by simp [SameReg8]

/-- The access is at the HL of the state before, and HL moves after it. -/
theorem readsOnce_of_loadAStep {delta : Word} (h : ∀ s, exec i s = loadAStep delta s) :
    ReadsOnce i 1 8 State.hl fun v s t =>
      t.reg8 .a = v ∧ HlMoves delta s t ∧ OtherReg8Kept s t ∧ t.f = s.f ∧ t.sp = s.sp :=
  readsOnce_intro h (fun v s s1 => ((Unseen.refl s1).setReg8 .a v).setPair .hl (s.hl + delta)) fun v s => by
    refine ⟨by simp, ⟨s.hl + delta, rfl, by simp [hiByte], by simp [loByte]⟩, fun q hh hl ha => ?_, by simp, by simp⟩
    simp [hh, hl, ha]

/-- The byte goes to the HL of the state before, and HL moves after the write. -/
theorem writesOnce_of_storeAStep {delta : Word} (h : ∀ s, exec i s = storeAStep delta s) :
    WritesOnce i 1 8 State.hl (fun s => s.reg8 .a) fun s t =>
      t.reg8 .a = s.reg8 .a ∧ HlMoves delta s t ∧ OtherReg8Kept s t :=
  writesOnce_intro h (fun s s1 => (Unseen.refl s1).setPair .hl (s.hl + delta)) (fun _ _ => by simp) fun s => by
    refine ⟨by simp, ⟨s.hl + delta, rfl, by simp [hiByte], by simp [loByte]⟩, fun q hh hl _ => ?_⟩
    simp [hh, hl]

end

/-! ### The statements -/

/-- Settles O23: the source's byte is read before the destination is written, and nothing else is. -/
theorem ldRegRegCopiesTheSource : Obligations.LdRegRegCopiesTheSource := by
  intro dst src
  refine ⟨encode_formLdRegReg dst src, ?_⟩
  exact quiet_intro (u := fun s => (s.advance 1).setReg8 dst (s.reg8 src)) (exec_formLdRegReg dst src)
    (fun s => by simp [past]) (fun s => (Unseen.refl (s.advance 1)).setReg8 dst (s.reg8 src))
    fun s => by simp [Reg8Becomes]

/-- Settles O24: the one update is the write of the immediate. -/
theorem ldRegImmLoadsTheByte : Obligations.LdRegImmLoadsTheByte := by
  intro r n
  refine ⟨encode_formLdRegImm r n, ?_⟩
  exact quiet_intro (u := fun s => (s.advance 2).setReg8 r n) (exec_formLdRegImm r n)
    (fun s => by simp [past]) (fun s => (Unseen.refl (s.advance 2)).setReg8 r n)
    fun s => by simp [Reg8Becomes]

/-- Settles O25: each is a byte load from the address of its rule, taken before the register is written. -/
theorem byteLoadsReadTheirAddress : Obligations.ByteLoadsReadTheirAddress := by
  unfold Obligations.ByteLoadsReadTheirAddress
  refine ⟨fun r => ⟨encode_formLdRegHl r, ?hl⟩, ⟨rfl, ?bc⟩, ⟨rfl, ?de⟩, fun n => ⟨rfl, ?a16⟩, fun n => ⟨rfl, ?a8⟩,
    ⟨rfl, ?c⟩⟩
  case hl => exact readsOnce_of_loadByte (exec_formLdRegHl r)
  case bc | de | a16 => exact readsOnce_of_loadByte fun _ => rfl
  case a8 => exact readsOnce_of_loadByte (exec_ldhA_MemA8 n)
  case c => exact readsOnce_of_loadByte exec_ldA_MemC

/-- Settles O26: each is a byte store, of the byte and to the address of its rule. -/
theorem byteStoresWriteTheirAddress : Obligations.ByteStoresWriteTheirAddress := by
  unfold Obligations.ByteStoresWriteTheirAddress
  refine ⟨fun r => ⟨encode_formLdHlReg r, ?hl⟩, fun n => ⟨rfl, ?hlImm⟩, ⟨rfl, ?bc⟩, ⟨rfl, ?de⟩, fun n => ⟨rfl, ?a16⟩,
    fun n => ⟨rfl, ?a8⟩, ⟨rfl, ?c⟩⟩
  case hl => exact writesOnce_of_storeByte (exec_formLdHlReg r)
  case hlImm | bc | de | a16 => exact writesOnce_of_storeByte fun _ => rfl
  case a8 => exact writesOnce_of_storeByte (exec_ldhMemA8_A n)
  case c => exact writesOnce_of_storeByte exec_ldMemC_A

/-- Settles O27: the one access is at the old HL, and HL moves after it, by 1 or by -1, unless the access faulted. -/
theorem postOpLoadsMoveHlAfterTheAccess : Obligations.PostOpLoadsMoveHlAfterTheAccess := by
  unfold Obligations.PostOpLoadsMoveHlAfterTheAccess
  exact ⟨⟨rfl, readsOnce_of_loadAStep fun _ => rfl⟩, ⟨rfl, readsOnce_of_loadAStep fun _ => rfl⟩,
    ⟨rfl, writesOnce_of_storeAStep fun _ => rfl⟩, ⟨rfl, writesOnce_of_storeAStep fun _ => rfl⟩⟩

end Sys2Proof.Machine
end

section
/-! SUPPORT. 16-bit loads and the stack (42_load16.md R230 to R236): the encoding and the meaning of each form, what a
write of a pair leaves in the registers and in F, SP plus displacement as numbers, and two writes in a row. -/

namespace Sys2Proof.Machine

/-! ### The forms -/

theorem encode_formLdPairImm (rr : Pair) (n : Word) :
    encode (formLdPairImm rr n) =
      [BitVec.ofNat 8 (0x01 + 16 * rr.field), n.extractLsb' 0 8, n.extractLsb' 8 8] := by
  cases rr <;> rfl

theorem encode_formPush (rr : StackPair) : encode (formPush rr) = [BitVec.ofNat 8 (0xC5 + 16 * rr.field)] := by
  cases rr <;> rfl

theorem encode_formPop (rr : StackPair) : encode (formPop rr) = [BitVec.ofNat 8 (0xC1 + 16 * rr.field)] := by
  cases rr <;> rfl

theorem exec_formLdPairImm (rr : Pair) (n : Word) (s : State) :
    exec (formLdPairImm rr n) s = loadPairImm rr n s := by
  cases rr <;> rfl

theorem exec_formPush (rr : StackPair) (s : State) : exec (formPush rr) s = pushPair rr s := by
  cases rr <;> rfl

theorem exec_formPop (rr : StackPair) (s : State) : exec (formPop rr) s = popPair rr s := by
  cases rr <;> rfl

/-! ### Registers and F after a write of a pair -/

section
variable {s u t : State}

theorem Unseen.setFlags (z n h c : Bool) (hu : Unseen s t) : Unseen s (t.setFlags z n h c) :=
  ⟨hu.pc, hu.cycles, hu.trace, hu.platform, hu.control, hu.memory, hu.accesses⟩

/-- The two bytes of a word written to two registers of a state with the registers of `s`. -/
theorem bytesBecome_setReg8 {hi lo : Reg8} (hne : hi ≠ lo) (v : Word) (hreg : SameReg8 s u)
    (ht : SameReg8 ((u.setReg8 hi (hiByte v)).setReg8 lo (loByte v)) t) : BytesBecome hi lo v s t := by
  refine ⟨?_, ?_, fun q hhi hlo => ?_⟩
  · simp [ht hi, hne, hiByte]
  · simp [ht lo, loByte]
  · simp [ht q, hhi, hlo, hreg q]

theorem pairBecomes_setPair (rr : Pair) (v : Word) (hreg : SameReg8 s u) (hsp : u.sp = s.sp)
    (ht : SameReg8 (u.setPair rr v) t) (htsp : t.sp = (u.setPair rr v).sp) : PairBecomes rr v s t := by
  cases rr
  case bc | de | hl => exact ⟨bytesBecome_setReg8 (by decide) v hreg ht, htsp.trans hsp⟩
  case sp => exact ⟨fun q => (ht q).trans ((u.setSp_reg8 v q).trans (hreg q)), htsp⟩

/-- An instruction whose one update is the write of a pair, or of SP. -/
theorem quiet_of_setPair {i : Instr} {len cyc : Nat} {rr : Pair} {v : State → Word}
    (h : ∀ s, exec i s = complete cyc ((s.advance len).setPair rr (v s))) :
    Quiet i (past len) (fun _ => cyc) fun s t => PairBecomes rr (v s) s t ∧ t.f = s.f :=
  quiet_intro h (fun s => by simp [past]) (fun s => (Unseen.refl (s.advance len)).setPair rr (v s)) fun s =>
    ⟨pairBecomes_setPair (u := s.advance len) rr (v s) (fun q => by simp) rfl (fun q => by simp) rfl, by simp⟩

@[simp] theorem State.setStackPair_af_reg8 (v : Word) (s : State) (q : Reg8) :
    (s.setStackPair .af v).reg8 q = if q = .a then hiByte v else s.reg8 q := by
  cases q <;> rfl

/-- R34: the low byte of the word written to AF, masked, holds the flags in bits 7..4. -/
theorem flagsBecome_of_masked {v : Word} (hf : t.f = loByte v &&& 0xF0) :
    FlagsBecome (v.getLsbD 7) (v.getLsbD 6) (v.getLsbD 5) (v.getLsbD 4) t := by
  simp [FlagsBecome, State.flagZ, State.flagN, State.flagH, State.flagC, hf, loByte]

end

/-! ### SP plus displacement -/

theorem displacement_eq_toInt (e : Byte) : displacement e = e.toInt := by
  rw [displacement, BitVec.toInt_eq_toNat_cond]
  split <;> split <;> omega

/-- R9: adding the sign-extended byte adds the number it stands for, modulo 2^16. -/
theorem toNat_add_sext16 (w : Word) (e : Byte) :
    ((w + sext16 e).toNat : Int) = ((w.toNat : Int) + displacement e) % 65536 := by
  have extended : (sext16 e).toNat = (e.toInt % 65536).toNat := BitVec.toNat_ofInt ..
  rw [BitVec.toNat_add, extended, displacement_eq_toInt]
  omega

theorem spOffsetH_iff (sp : Word) (e : Byte) :
    spOffsetH sp e = true ↔ sp.toNat % 16 + e.toNat % 16 > 0x0F := by
  have spLow : (sp &&& 0x0F).toNat = sp.toNat % 16 := Nat.and_two_pow_sub_one_eq_mod sp.toNat 4
  have eLow : lowNibble e = e.toNat % 16 := Nat.and_two_pow_sub_one_eq_mod e.toNat 4
  rw [spOffsetH, spLow, eLow, decide_eq_true_iff]

theorem spOffsetC_iff (sp : Word) (e : Byte) :
    spOffsetC sp e = true ↔ sp.toNat % 256 + e.toNat > 0xFF := by
  have spLow : (sp &&& 0xFF).toNat = sp.toNat % 256 := Nat.and_two_pow_sub_one_eq_mod sp.toNat 8
  rw [spOffsetC, spLow, decide_eq_true_iff]

/-- The flags of R236 and R313 are read off F alone. -/
theorem spOffsetFlags_of_f {sp : Word} {e : Byte} {t : State}
    (hf : t.f = flagByte false false (spOffsetH sp e) (spOffsetC sp e)) : SpOffsetFlags sp e t := by
  simp only [SpOffsetFlags, State.flagZ, State.flagN, State.flagH, State.flagC, hf, flagByte_z, flagByte_n, flagByte_h,
    flagByte_c, spOffsetH_iff, spOffsetC_iff, true_and]
  exact flagByte_low ..

/-! ### Two writes in a row -/

section
variable {a b : Word} {v w : Byte} {s : State} {next : State → Result}

/-- The state after a completed write. -/
def State.written (a : Word) (v : Byte) (s : State) : State := ((s.store a v).countAccess a).emit (.write a v)

theorem State.written_writeAccepted (a : Word) (v : Byte) (s : State) (b : Word) :
    (s.written a v).writeAccepted b = (s.countAccess a).writeAccepted b :=
  State.writeAccepted_congr b (by simp [State.written]) (by simp [State.written])

theorem memWrite_memWrite_of_accepted (h1 : s.writeAccepted a = true)
    (h2 : (s.countAccess a).writeAccepted b = true) :
    (memWrite a v s fun s1 => memWrite b w s1 next) = next ((s.written a v).written b w) := by
  rw [memWrite_of_accepted h1]
  exact memWrite_of_accepted ((s.written_writeAccepted a v b).trans h2)

theorem memWrite_memWrite_of_second_rejected (h1 : s.writeAccepted a = true)
    (h2 : (s.countAccess a).writeAccepted b = false) :
    (memWrite a v s fun s1 => memWrite b w s1 next) =
      .next (((s.written a v).countAccess b).raise .write b) := by
  rw [memWrite_of_accepted h1]
  exact memWrite_of_rejected ((s.written_writeAccepted a v b).trans h2)

end

theorem advance_countAccess_writeAccepted (len : Nat) (a : Word) (s : State) (b : Word) :
    ((s.advance len).countAccess a).writeAccepted b = (s.countAccess a).writeAccepted b :=
  State.writeAccepted_congr b (by simp) (by simp)

/-! ### The statements -/

/-- Settles O28: the one update is the write of the pair, or of SP. -/
theorem wordLoadsSetThePair : Obligations.WordLoadsSetThePair := by
  refine ⟨fun rr n => ⟨encode_formLdPairImm rr n, ?imm⟩, rfl, ?sp⟩
  case imm => exact quiet_of_setPair (exec_formLdPairImm rr n)
  case sp => exact quiet_of_setPair (rr := .sp) (v := State.hl) fun _ => rfl

/-- Settles O29: the second write is asked for after the first is stored and counted, and `n + 1` is another address
than `n`. -/
theorem ldMemSpStoresLowThenHigh : Obligations.LdMemSpStoresLowThenHigh := by
  intro n s
  have meaning : exec (.ldMemA16_SP n) s = memWrite n (loByte s.sp) (s.advance 3) fun s1 =>
    memWrite (n + 1) (hiByte s.sp) s1 (complete 20) := rfl
  have apart : n ≠ n + 1 := by bv_omega
  refine ⟨rfl, fun h1 => ⟨fun h2 => ?both, fun h2 => ?secondRejected⟩, fun h1 => ?firstRejected⟩
  case both =>
    rw [← advance_countAccess_writeAccepted 3] at h2
    rw [meaning, memWrite_memWrite_of_accepted (s := s.advance 3) h1 h2]
    refine ⟨_, rfl, ?_, ?_, ?_, ?_, ?_, ?stored, ?_⟩
    case stored =>
      exact storedTwoBytes_store (u := s.advance 3) (u2 := (s.advance 3).written n (loByte s.sp)) apart rfl rfl
        (by simp [State.written])
        (by simp [State.written, loByte]) (by simp [State.written, hiByte])
    all_goals simp [State.written, past, SamePlatform, SameControl, SameReg8, loByte, hiByte]
  case secondRejected =>
    rw [← advance_countAccess_writeAccepted 3] at h2
    rw [meaning, memWrite_memWrite_of_second_rejected (s := s.advance 3) h1 h2]
    refine ⟨_, rfl, rfl, ?_, ?_, ?_, ?_, ?_, ?_, ?_, ?_, ?_, ?stored⟩
    case stored => exact storedByte_store (u := s.advance 3) n _ rfl rfl (by simp [State.written, loByte])
    all_goals simp [State.written, past, SamePlatform, SameReg8, loByte]
  case firstRejected =>
    rw [meaning, memWrite_of_rejected (s := s.advance 3) h1]
    refine ⟨_, rfl, rfl, ?_⟩
    simp [past, SamePlatform, SameReg8, SameMemory]

/-- Settles O30: HL takes the sum, which is SP plus the displacement modulo 2^16, and F the flags of the two low
bytes. -/
theorem ldHlSpOffsetAddsTheDisplacement : Obligations.LdHlSpOffsetAddsTheDisplacement := by
  intro e
  refine ⟨rfl, quiet_intro (fun _ => rfl) (fun s => by simp [past])
    (fun s => ((Unseen.refl (s.advance 2)).setPair .hl (s.sp + sext16 e)).setFlags _ _ _ _) fun s =>
      ⟨⟨s.sp + sext16 e, toNat_add_sext16 s.sp e, ?_⟩, spOffsetFlags_of_f rfl⟩⟩
  exact pairBecomes_setPair (u := s.advance 2) .hl _ (fun q => by simp) rfl (fun q => by simp) rfl

/-- Settles O31: each is a push of the pair, after which nothing moves. -/
theorem pushStoresThePair : Obligations.PushStoresThePair := by
  intro rr s
  have pushed : PushesWord (exec (formPush rr) s) s (past 1 s) (s.stackPair rr) (past 1 s) 16 :=
    pushesWord_intro (u := id) (exec_formPush rr s) fun s1 hpc => by rw [← hpc]; rfl
  refine ⟨encode_formPush rr, ?_⟩
  cases rr <;> exact pushed

/-- Settles O32: each is a pop, after which the pair takes the word read, AF with its low nibble masked. -/
theorem popLoadsThePair : Obligations.PopLoadsThePair := by
  intro rr s
  refine ⟨encode_formPop rr, popsWord_intro (u := fun v s1 => s1.setStackPair rr v) (exec_formPop rr s)
    (fun v s1 => by simp [SamePlatform]) (fun v s1 hpc => by simpa using hpc) fun v s1 hreg hf hcontrol =>
      ⟨by simpa [SameControl] using hcontrol, ?_⟩⟩
  cases rr
  case bc | de | hl => exact ⟨bytesBecome_setReg8 (by decide) v hreg fun q => rfl, hf⟩
  case af => exact ⟨fun q => by simp [hreg q, hiByte], flagsBecome_of_masked rfl⟩

end Sys2Proof.Machine
end

section
/-! SUPPORT. 8-bit arithmetic and logic (43_alu8.md R250 to R292): the encoding and the meaning of each form, the
functions of Flags.lean as numbers and bits, and how an instruction that writes a result and its flags completes. -/

namespace Sys2Proof.Machine

/-! ### The forms -/

theorem encode_formAluReg (op : AluOp) (r : Reg8) :
    encode (formAluReg op r) = [BitVec.ofNat 8 (0x80 + 8 * op.field + r.field)] := by
  cases op <;> cases r <;> rfl

theorem encode_formAluMem (op : AluOp) : encode (formAluMem op) = [BitVec.ofNat 8 (0x86 + 8 * op.field)] := by
  cases op <;> rfl

theorem encode_formAluImm (op : AluOp) (n : Byte) :
    encode (formAluImm op n) = [BitVec.ofNat 8 (0xC6 + 8 * op.field), n] := by
  cases op <;> rfl

theorem encode_formIncReg (r : Reg8) : encode (formIncReg r) = [BitVec.ofNat 8 (0x04 + 8 * r.field)] := by
  cases r <;> rfl

theorem encode_formDecReg (r : Reg8) : encode (formDecReg r) = [BitVec.ofNat 8 (0x05 + 8 * r.field)] := by
  cases r <;> rfl

theorem exec_formAluReg (op : AluOp) (r : Reg8) (s : State) : exec (formAluReg op r) s = aluReg op r s := by
  cases op <;> cases r <;> rfl

theorem exec_formAluMem (op : AluOp) (s : State) : exec (formAluMem op) s = aluMem op s := by
  cases op <;> rfl

theorem exec_formAluImm (op : AluOp) (n : Byte) (s : State) : exec (formAluImm op n) s = aluImm op n s := by
  cases op <;> rfl

theorem exec_formIncReg (r : Reg8) (s : State) : exec (formIncReg r) s = incReg r s := by
  cases r <;> rfl

theorem exec_formDecReg (r : Reg8) (s : State) : exec (formDecReg r) s = decReg r s := by
  cases r <;> rfl

/-! ### The functions, as numbers and bits -/

theorem lowNibble_eq_mod (v : Byte) : lowNibble v = v.toNat % 16 :=
  Nat.and_two_pow_sub_one_eq_mod v.toNat 4

/-- The Z flag of a result, read off the number the result stands for. -/
theorem decide_eq_zero_iff (r : Byte) : decide (r = 0) = true ↔ r.toNat = 0 := by
  rw [decide_eq_true_iff, ← BitVec.toNat_inj]; rfl

/-- R251. -/
theorem adc8_gives (a b : Byte) (cin : Bool) :
    let x := adc8 a b cin
    AluGives .adc a b cin x.result x.z x.n x.h x.c := by
  have sum : (a + b + BitVec.ofNat 8 cin.toNat).toNat = (a.toNat + b.toNat + cin.toNat) % 256 := by
    simp [BitVec.toNat_add]
  exact ⟨sum, by rw [← sum]; exact decide_eq_zero_iff _, rfl, by simp [adc8, lowNibble_eq_mod], by simp [adc8]⟩

/-- R253. -/
theorem sbc8_gives (a b : Byte) (cin : Bool) :
    let x := sbc8 a b cin
    AluGives .sbc a b cin x.result x.z x.n x.h x.c := by
  have difference : ((a - b - BitVec.ofNat 8 cin.toNat).toNat : Int) =
      ((a.toNat : Int) - b.toNat - cin.toNat) % 256 := by
    have := cin.toNat_le
    simp only [BitVec.toNat_sub, BitVec.toNat_ofNat]
    omega
  refine ⟨difference, ?_, rfl, by simp [sbc8, lowNibble_eq_mod], by simp [sbc8]⟩
  rw [← difference, Int.natCast_eq_zero]
  exact decide_eq_zero_iff _

theorem add8_eq_adc8 (a b : Byte) : add8 a b = adc8 a b false := by
  simp [add8, adc8]

theorem sub8_eq_sbc8 (a b : Byte) : sub8 a b = sbc8 a b false := by
  simp [sub8, sbc8]

/-- R252 is R253 without a borrow in. -/
theorem sub8_gives (a b : Byte) (cin : Bool) :
    let x := sub8 a b
    AluGives .sub a b cin x.result x.z x.n x.h x.c := by
  simpa [AluGives, sub8_eq_sbc8] using sbc8_gives a b false

theorem alu8_gives (op : AluOp) (a b : Byte) (cin : Bool) :
    let x := alu8 op a b cin
    AluGives op a b cin x.result x.z x.n x.h x.c := by
  cases op
  case add => simpa [AluGives, alu8, add8_eq_adc8] using adc8_gives a b false
  case adc => exact adc8_gives a b cin
  case sub => exact sub8_gives a b cin
  case sbc => exact sbc8_gives a b cin
  case and => simp [AluGives, alu8, and8]
  case xor => simp [AluGives, alu8, xor8]
  case or => simp [AluGives, alu8, or8]
  case cp =>
    obtain ⟨_, flags⟩ := sub8_gives a b cin
    exact ⟨rfl, flags⟩

theorem inc8_result (v : Byte) (c : Bool) : (inc8 v c).result = BitVec.ofNat 8 (v.toNat + 1) := by
  apply BitVec.eq_of_toNat_eq
  simp [inc8, BitVec.toNat_add]

theorem dec8_result (v : Byte) (c : Bool) : (dec8 v c).result = BitVec.ofNat 8 (v.toNat + 255) := by
  apply BitVec.eq_of_toNat_eq
  simp [dec8, BitVec.toNat_sub, Nat.add_comm]

/-! ### DAA -/

/-- R289, addition branch: adding 0x60 moves no bit of the low nibble, so both tests can be made on the old A. -/
theorem daaAdjusted_add (a : Int) (h c : Bool) :
    daaAdjusted a false h c =
      (a + (if c = true ∨ a > 0x99 then 0x60 else 0) + (if h = true ∨ a % 16 > 0x09 then 0x06 else 0),
        decide (c = true ∨ a > 0x99)) := by
  have lowKept : (a + 0x60) % 16 = a % 16 := by omega
  by_cases carry : c = true ∨ a > 0x99
  · by_cases half : h = true ∨ a % 16 > 0x09 <;> simp [daaAdjusted, carry, half, lowKept]
  · have clear : c = false := by simpa using mt Or.inl carry
    by_cases half : h = true ∨ a % 16 > 0x09 <;> simpa [daaAdjusted, carry, half] using clear

theorem daa8_add (a : Byte) (h c : Bool) :
    let x := daa8 a false h c
    let r := daaAdjusted a.toNat false h c
    (x.result.toNat : Int) = r.1 % 256 ∧ x.c = r.2 := by
  have carryTest : (a.toNat : Int) > 0x99 ↔ a.toNat > 0x99 := by omega
  have halfTest : (a.toNat : Int) % 16 > 0x09 ↔ a.toNat % 16 > 0x09 := by omega
  simp only [daaAdjusted_add, carryTest, halfTest]
  refine ⟨?_, by simp [daa8]⟩
  simp only [daa8, lowNibble_eq_mod, Bool.false_eq_true, if_false, Bool.or_eq_true, decide_eq_true_iff]
  split_ifs <;> simp [BitVec.toNat_add]
  omega

theorem daa8_sub (a : Byte) (h c : Bool) :
    let x := daa8 a true h c
    let r := daaAdjusted a.toNat true h c
    (x.result.toNat : Int) = r.1 % 256 ∧ x.c = r.2 := by
  refine ⟨?_, rfl⟩
  cases h <;> cases c <;> simp [daa8, daaAdjusted, BitVec.toNat_sub] <;> omega

/-- R289: the model wraps at each addition and subtraction, the rule once at the end. -/
theorem daa8_gives (a : Byte) (n h c : Bool) :
    let x := daa8 a n h c
    let r := daaAdjusted a.toNat n h c
    (x.result.toNat : Int) = r.1 % 256 ∧ x.c = r.2 := by
  cases n
  case false => exact daa8_add a h c
  case true => exact daa8_sub a h c

/-! ### A result and its flags written -/

theorem Unseen.setAluFlags {s t : State} (x : Alu) (h : Unseen s t) : Unseen s (t.setAluFlags x) :=
  h.setFlags x.z x.n x.h x.c

theorem flagsBecome_of_f {z n h c : Bool} {t : State} (hf : t.f = flagByte z n h c) : FlagsBecome z n h c t := by
  simp only [FlagsBecome, State.flagZ, State.flagN, State.flagH, State.flagC, hf, flagByte_z, flagByte_n, flagByte_h,
    flagByte_c, true_and]
  exact flagByte_low ..

/-- F holds the four flags that go with a result (R36). -/
abbrev Alu.FlagsWritten (x : Alu) (t : State) : Prop := FlagsBecome x.z x.n x.h x.c t

/-- R261: `r` takes the result, F the four flags, and no other register moves. -/
structure TakesResult (r : Reg8) (x : Alu) (s t : State) : Prop where
  reg : Reg8Becomes r x.result s t
  flags : x.FlagsWritten t
  sp : t.sp = s.sp

section
variable {r : Reg8} {x : Alu} {s t u : State}

theorem TakesResult.value (h : TakesResult r x s t) : t.reg8 r = x.result := (h.reg r).trans (if_pos rfl)

theorem TakesResult.kept (h : TakesResult r x s t) (q : Reg8) (hq : q ≠ r) : t.reg8 q = s.reg8 q :=
  (h.reg q).trans (if_neg hq)

theorem takesResult_report (hreg : SameReg8 s u) (hsp : u.sp = s.sp) (n : Nat) :
    TakesResult r x s (((u.setReg8 r x.result).setAluFlags x).report n) where
  reg q := by simp [hreg q]
  flags := flagsBecome_of_f rfl
  sp := by simp [hsp]

theorem TakesResult.aluWritten {op : AluOp} {v : Byte} (h : TakesResult .a (alu8 op s.a v s.flagC) s t) :
    AluWritten op v s t := by
  obtain ⟨hz, hn, hh, hc, hlow⟩ := h.flags
  refine ⟨?_, hlow, h.kept, h.sp⟩
  rw [show t.a = _ from h.value, hz, hn, hh, hc]
  exact alu8_gives op s.a v s.flagC

theorem incFlags_of_flagsWritten {v : Byte} (h : (inc8 v s.flagC).FlagsWritten t) : IncFlags v s t := by
  obtain ⟨hz, hn, hh, hc, hlow⟩ := h
  refine ⟨?_, hn, ?_, hc, hlow⟩
  · rw [hz]; exact (decide_eq_zero_iff (v + 1)).trans (by simp [BitVec.toNat_add])
  · rw [hh]; simp [inc8, lowNibble_eq_mod]

theorem decFlags_of_flagsWritten {v : Byte} (h : (dec8 v s.flagC).FlagsWritten t) : DecFlags v s t := by
  obtain ⟨hz, hn, hh, hc, hlow⟩ := h
  refine ⟨?_, hn, ?_, hc, hlow⟩
  · rw [hz]; exact (decide_eq_zero_iff (v - 1)).trans (by simp [BitVec.toNat_sub]; omega)
  · rw [hh]; simp [dec8, lowNibble_eq_mod]

end

section
variable {i : Instr} {len cyc : Nat}

/-- An instruction without a bus access that writes a result and its flags. -/
theorem quiet_of_takesResult {r : Reg8} {x : State → Alu} {post : State → State → Prop}
    (h : ∀ s, exec i s = complete cyc (((s.advance len).setReg8 r (x s).result).setAluFlags (x s)))
    (hpost : ∀ s t, TakesResult r (x s) s t → post s t) : Quiet i (past len) (fun _ => cyc) post :=
  quiet_intro h (fun s => by simp [past])
    (fun s => ((Unseen.refl (s.advance len)).setReg8 r (x s).result).setAluFlags (x s))
    fun s => hpost s _ (takesResult_report (s := s) (u := s.advance len) (fun q => by simp) rfl cyc)

/-- An instruction without a bus access that writes F alone. -/
theorem quiet_of_setFlags {z n h c : State → Bool}
    (hexec : ∀ s, exec i s = complete cyc ((s.advance len).setFlags (z s) (n s) (h s) (c s))) :
    Quiet i (past len) (fun _ => cyc) fun s t => FlagsBecome (z s) (n s) (h s) (c s) t ∧ SameReg8 s t ∧ t.sp = s.sp :=
  quiet_intro hexec (fun s => by simp [past])
    (fun s => (Unseen.refl (s.advance len)).setFlags (z s) (n s) (h s) (c s))
    fun s => ⟨flagsBecome_of_f rfl, fun q => by simp, by simp⟩

/-- INC (HL) and DEC (HL): the flags are written after the byte, and only if the write completes. -/
theorem readModifyWrites_of_setAluFlags {x : State → Byte → Alu} {w : Byte → Byte}
    {post : Byte → State → State → Prop}
    (hw : ∀ s v, (x s v).result = w v)
    (h : ∀ s, exec i s = memRead s.hl (s.advance len) fun v s1 =>
      memWrite s.hl (x s v).result s1 fun s2 => complete cyc (s2.setAluFlags (x s v)))
    (hpost : ∀ v s t, (x s v).FlagsWritten t → post v s t) :
    ReadModifyWrites i len cyc (fun _ => w) post := by
  simp only [hw] at h
  exact readModifyWrites_intro h (fun v s s1 => (Unseen.refl s1).setAluFlags (x s v))
    (fun v s s1 => ⟨fun q => by simp, rfl⟩) fun v s s2 _ _ => hpost v s _ (flagsBecome_of_f rfl)

end

/-! ### The statements -/

/-- Settles O33: SUB is SBC without a borrow, ADD is ADC without a carry, and CP has the flags of SUB. -/
theorem aluFunctionsAreTheSpecs : Obligations.AluFunctionsAreTheSpecs := alu8_gives

/-- Settles O34: the operand is read before A is written, so the operand A is the old one. -/
theorem aluOnRegisterWritesAAndFlags : Obligations.AluOnRegisterWritesAAndFlags := by
  intro op r
  exact ⟨encode_formAluReg op r, quiet_of_takesResult (exec_formAluReg op r) fun _ _ => TakesResult.aluWritten⟩

/-- Settles O35: one read, at HL, and then the write of A and F. -/
theorem aluOnMemoryWritesAAndFlags : Obligations.AluOnMemoryWritesAAndFlags := by
  intro op
  refine ⟨encode_formAluMem op, readsOnce_intro (u := fun v s s1 => s1.setAlu (alu8 op s.a v s.flagC))
    (exec_formAluMem op) (fun v s s1 => ((Unseen.refl s1).setReg8 .a _).setAluFlags _) fun v s => ?_⟩
  exact (takesResult_report (fun q => by simp) (by simp) 8).aluWritten

/-- Settles O36: as with a register operand. -/
theorem aluOnImmediateWritesAAndFlags : Obligations.AluOnImmediateWritesAAndFlags := by
  intro op n
  exact ⟨encode_formAluImm op n, quiet_of_takesResult (exec_formAluImm op n) fun _ _ => TakesResult.aluWritten⟩

/-- Settles O37: `v - 1` is `v + 255` modulo 2^8, and C is passed its old value. -/
theorem incDecRegisterKeepCarry : Obligations.IncDecRegisterKeepCarry := by
  intro r
  refine ⟨encode_formIncReg r, quiet_of_takesResult (exec_formIncReg r) fun s t h => ?inc,
    encode_formDecReg r, quiet_of_takesResult (exec_formDecReg r) fun s t h => ?dec⟩
  case inc => exact ⟨inc8_result _ _ ▸ h.reg, incFlags_of_flagsWritten h.flags, h.sp⟩
  case dec => exact ⟨dec8_result _ _ ▸ h.reg, decFlags_of_flagsWritten h.flags, h.sp⟩

/-- Settles O38: the byte written is the function's result on the byte read. -/
theorem incDecMemoryReadThenWrite : Obligations.IncDecMemoryReadThenWrite := by
  refine ⟨rfl, ?inc, rfl, ?dec⟩
  case inc =>
    exact readModifyWrites_of_setAluFlags (x := fun s v => inc8 v s.flagC) (fun s v => inc8_result v s.flagC)
      (fun _ => rfl) fun _ _ _ => incFlags_of_flagsWritten
  case dec =>
    exact readModifyWrites_of_setAluFlags (x := fun s v => dec8 v s.flagC) (fun s v => dec8_result v s.flagC)
      (fun _ => rfl) fun _ _ _ => decFlags_of_flagsWritten

/-- Settles O39: A takes the model's byte, which is the rule's number modulo 2^8. -/
theorem daaAdjustsA : Obligations.DaaAdjustsA := by
  refine ⟨rfl, quiet_of_takesResult (r := .a) (x := fun s => daa8 s.a s.flagN s.flagH s.flagC) (fun _ => rfl) ?_⟩
  intro s t h
  obtain ⟨hz, hn, hh, hc, hlow⟩ := h.flags
  obtain ⟨number, carry⟩ := daa8_gives s.a s.flagN s.flagH s.flagC
  refine ⟨(congrArg (fun v : Byte => (v.toNat : Int)) h.value).trans number, ?zero, hn, hh, hc.trans carry, hlow,
    h.kept, h.sp⟩
  case zero =>
    rw [hz, ← number, Int.natCast_eq_zero]
    exact decide_eq_zero_iff _

/-- Settles O40: CPL writes A and F, SCF and CCF F alone; a flag not named is passed its old value. -/
theorem cplScfCcfWriteTheirFlags : Obligations.CplScfCcfWriteTheirFlags := by
  refine ⟨rfl, quiet_of_takesResult (r := .a) (x := fun s => ⟨s.a ^^^ 0xFF, s.flagZ, true, true, s.flagC⟩)
    (fun _ => rfl) fun s t h => ⟨?complement, h.flags, h.kept, h.sp⟩, rfl, quiet_of_setFlags fun _ => rfl, rfl,
    quiet_of_setFlags fun _ => rfl⟩
  case complement =>
    intro i hi
    rw [show t.a = s.a ^^^ BitVec.allOnes 8 from h.value, BitVec.xor_allOnes, BitVec.getLsbD_not, decide_eq_true hi,
      Bool.true_and]

end Sys2Proof.Machine
end

section
/-! SUPPORT. 16-bit arithmetic (44_alu16.md R310 to R313): the encoding and the meaning of each form, the carries of
ADD HL,rr as numbers, and how an instruction that writes a pair, or SP, and its flags completes. -/

namespace Sys2Proof.Machine

/-! ### The forms -/

theorem encode_formAddHl (rr : Pair) : encode (formAddHl rr) = [BitVec.ofNat 8 (0x09 + 16 * rr.field)] := by
  cases rr <;> rfl

theorem encode_formIncPair (rr : Pair) : encode (formIncPair rr) = [BitVec.ofNat 8 (0x03 + 16 * rr.field)] := by
  cases rr <;> rfl

theorem encode_formDecPair (rr : Pair) : encode (formDecPair rr) = [BitVec.ofNat 8 (0x0B + 16 * rr.field)] := by
  cases rr <;> rfl

theorem exec_formAddHl (rr : Pair) (s : State) : exec (formAddHl rr) s = addHlPair rr s := by
  cases rr <;> rfl

theorem exec_formIncPair (rr : Pair) (s : State) : exec (formIncPair rr) s = incPair rr s := by
  cases rr <;> rfl

theorem exec_formDecPair (rr : Pair) (s : State) : exec (formDecPair rr) s = decPair rr s := by
  cases rr <;> rfl

/-! ### The carries of ADD HL,rr, as numbers -/

theorem add16H_iff (h v : Word) : add16H h v = true ↔ h.toNat % 4096 + v.toNat % 4096 > 0x0FFF := by
  have low (w : Word) : (w &&& 0x0FFF).toNat = w.toNat % 4096 := Nat.and_two_pow_sub_one_eq_mod w.toNat 12
  rw [add16H, low, low, decide_eq_true_iff]

theorem add16C_iff (h v : Word) : add16C h v = true ↔ h.toNat + v.toNat > 0xFFFF :=
  decide_eq_true_iff

/-! ### A pair and F written -/

/-- An instruction without a bus access that writes a pair, or SP, and then F. -/
theorem quiet_of_setPair_setFlags {i : Instr} {len cyc : Nat} {rr : Pair} {v : State → Word} {z n h c : State → Bool}
    {post : State → State → Prop}
    (hexec : ∀ s, exec i s = complete cyc (((s.advance len).setPair rr (v s)).setFlags (z s) (n s) (h s) (c s)))
    (hpost : ∀ s t, PairBecomes rr (v s) s t → t.f = flagByte (z s) (n s) (h s) (c s) → post s t) :
    Quiet i (past len) (fun _ => cyc) post :=
  quiet_intro hexec (fun s => by simp [past])
    (fun s => ((Unseen.refl (s.advance len)).setPair rr (v s)).setFlags (z s) (n s) (h s) (c s)) fun s =>
      hpost s _ (pairBecomes_setPair (u := s.advance len) rr (v s) (fun q => by simp) rfl (fun q => by simp) rfl) rfl

/-! ### The statements -/

/-- Settles O41: HL takes the sum, and F is written from the old HL and the old pair, so `ADD HL,HL` is no exception;
Z is passed its old value. -/
theorem addHlCarriesFromBits11And15 : Obligations.AddHlCarriesFromBits11And15 := by
  intro rr
  refine ⟨encode_formAddHl rr, quiet_of_setPair_setFlags (exec_formAddHl rr) fun s t hpair hf => ?_⟩
  obtain ⟨hz, hn, hh, hc, hlow⟩ := flagsBecome_of_f hf
  refine ⟨?sum, hz, hn, ?half, ?carry, hlow⟩
  case sum => rw [← BitVec.add_def]; exact hpair
  case half => rw [hh]; exact add16H_iff s.hl (s.pair rr)
  case carry => rw [hc]; exact add16C_iff s.hl (s.pair rr)

/-- Settles O42: the one update is the write of the pair, or of SP; `w - 1` is `w + 65535` modulo 2^16. -/
theorem incDecPairWriteNoFlag : Obligations.IncDecPairWriteNoFlag := by
  intro rr
  refine ⟨encode_formIncPair rr, quiet_of_setPair fun s => ?inc, encode_formDecPair rr, quiet_of_setPair fun s => ?dec⟩
  case inc =>
    have up : s.pair rr + 1 = BitVec.ofNat 16 ((s.pair rr).toNat + 1) := BitVec.add_def ..
    rw [exec_formIncPair, incPair, up]
  case dec =>
    have down : s.pair rr - 1 = BitVec.ofNat 16 ((s.pair rr).toNat + 65535) := by
      rw [Nat.add_comm]; exact BitVec.sub_def ..
    rw [exec_formDecPair, decPair, down]

/-- Settles O43: SP takes the sum of R236, and F the flags of the two low bytes. -/
theorem addSpAddsTheDisplacement : Obligations.AddSpAddsTheDisplacement := by
  intro e
  refine ⟨rfl, quiet_of_setPair_setFlags (rr := .sp) (v := fun s => s.sp + sext16 e) (fun _ => rfl)
    fun s t ⟨hreg, hsp⟩ hf => ⟨?sum, hreg, spOffsetFlags_of_f hf⟩⟩
  case sum => rw [hsp]; exact toNat_add_sext16 s.sp e

end Sys2Proof.Machine
end

section
/-! SUPPORT. Rotates, shifts and bit operations (45_rotate_shift_bit.md R330 to R361): the encoding and the meaning of
each form, the rotates and the masks bit by bit, and how an instruction that writes a result without flags completes. -/

namespace Sys2Proof.Machine

/-! ### The forms -/

theorem encode_formRotReg (op : RotOp) (r : Reg8) :
    encode (formRotReg op r) = [0xCB, BitVec.ofNat 8 (8 * op.field + r.field)] := by
  cases op <;> cases r <;> rfl

theorem encode_formRotMem (op : RotOp) : encode (formRotMem op) = [0xCB, BitVec.ofNat 8 (8 * op.field + 6)] := by
  cases op <;> rfl

theorem encode_formBitReg (b : Fin 8) (r : Reg8) :
    encode (formBitReg b r) = [0xCB, BitVec.ofNat 8 (0x40 + 8 * b.val + r.field)] := by
  cases r <;> fin_cases b <;> rfl

theorem encode_formBitMem (b : Fin 8) : encode (formBitMem b) = [0xCB, BitVec.ofNat 8 (0x46 + 8 * b.val)] := by
  fin_cases b <;> rfl

theorem encode_formResReg (b : Fin 8) (r : Reg8) :
    encode (formResReg b r) = [0xCB, BitVec.ofNat 8 (0x80 + 8 * b.val + r.field)] := by
  cases r <;> fin_cases b <;> rfl

theorem encode_formResMem (b : Fin 8) : encode (formResMem b) = [0xCB, BitVec.ofNat 8 (0x86 + 8 * b.val)] := by
  fin_cases b <;> rfl

theorem encode_formSetReg (b : Fin 8) (r : Reg8) :
    encode (formSetReg b r) = [0xCB, BitVec.ofNat 8 (0xC0 + 8 * b.val + r.field)] := by
  cases r <;> fin_cases b <;> rfl

theorem encode_formSetMem (b : Fin 8) : encode (formSetMem b) = [0xCB, BitVec.ofNat 8 (0xC6 + 8 * b.val)] := by
  fin_cases b <;> rfl

theorem exec_formRotReg (op : RotOp) (r : Reg8) (s : State) : exec (formRotReg op r) s = rotateReg op r s := by
  cases op <;> cases r <;> rfl

theorem exec_formRotMem (op : RotOp) (s : State) : exec (formRotMem op) s = rotateMem op s := by
  cases op <;> rfl

theorem exec_formBitReg (b : Fin 8) (r : Reg8) (s : State) : exec (formBitReg b r) s = testBitReg b r s := by
  cases r <;> fin_cases b <;> rfl

theorem exec_formBitMem (b : Fin 8) (s : State) : exec (formBitMem b) s = testBitMem b s := by
  fin_cases b <;> rfl

theorem exec_formResReg (b : Fin 8) (r : Reg8) (s : State) : exec (formResReg b r) s = resetBitReg b r s := by
  cases r <;> fin_cases b <;> rfl

theorem exec_formResMem (b : Fin 8) (s : State) : exec (formResMem b) s = resetBitMem b s := by
  fin_cases b <;> rfl

theorem exec_formSetReg (b : Fin 8) (r : Reg8) (s : State) : exec (formSetReg b r) s = setBitReg b r s := by
  cases r <;> fin_cases b <;> rfl

theorem exec_formSetMem (b : Fin 8) (s : State) : exec (formSetMem b) s = setBitMem b s := by
  fin_cases b <;> rfl

/-! ### The functions, bit by bit -/

theorem bitByte_getLsbD (b : Bool) (i : Nat) : (bitByte b).getLsbD i = (b && decide (i = 0)) := by
  cases b <;> simp [bitByte]

theorem bitMask_getLsbD (b : Fin 8) (i : Nat) : (bitMask b).getLsbD i = decide (i = b.val) := by
  have power : bitMask b = BitVec.twoPow 8 b.val := rfl
  rw [power, BitVec.getLsbD_twoPow, decide_eq_true b.isLt, Bool.true_and]
  exact decide_eq_decide.mpr eq_comm

/-- Every bit one place up, `b` into bit 0. -/
theorem shiftLeft_or_bitByte_bits (v : Byte) (b : Bool) :
    let r := (v <<< 1) ||| bitByte b
    r.getLsbD 0 = b ∧ ∀ i, i < 7 → r.getLsbD (i + 1) = v.getLsbD i := by
  refine ⟨?_, fun i hi => ?_⟩ <;>
    simp only [BitVec.getLsbD_or, BitVec.getLsbD_shiftLeft, bitByte_getLsbD]
  · simp
  · have inByte : i + 1 < 8 := by omega
    simp [inByte]

/-- Every bit one place down, `b` into bit 7. -/
theorem shiftRight_or_bitByte_bits (v : Byte) (b : Bool) :
    let r := (v >>> 1) ||| (bitByte b <<< 7)
    r.getLsbD 7 = b ∧ ∀ i, i < 7 → r.getLsbD i = v.getLsbD (i + 1) := by
  refine ⟨?_, fun i hi => ?_⟩ <;>
    simp only [BitVec.getLsbD_or, BitVec.getLsbD_ushiftRight, BitVec.getLsbD_shiftLeft, bitByte_getLsbD]
  · simp
  · simp [hi, Nat.add_comm]

/-- The bit SRA keeps is bit 7 rotated in. -/
theorem and_bit7_eq_bitByte (v : Byte) : v &&& 0x80 = bitByte (v.getLsbD 7) <<< 7 := by
  revert v; decide

theorem swap_bits (v : Byte) (i : Nat) (hi : i < 4) :
    let r := (v <<< 4) ||| (v >>> 4)
    r.getLsbD i = v.getLsbD (i + 4) ∧ r.getLsbD (i + 4) = v.getLsbD i := by
  have low : i + 4 < 8 := by omega
  have high : v.getLsbD (4 + (i + 4)) = false := BitVec.getLsbD_of_ge v _ (by omega)
  constructor <;> simp only [BitVec.getLsbD_or, BitVec.getLsbD_ushiftRight, BitVec.getLsbD_shiftLeft]
  · simp [hi, Nat.add_comm]
  · simp [low, high]

/-- SLA, SRL and SRA are the rotates with 0, 0 and bit 7 in place of the bit rotated in. -/
theorem rotate8_gives (op : RotOp) (v : Byte) (cin : Bool) :
    RotGives op v cin (rotate8 op v cin).1 (rotate8 op v cin).2 := by
  cases op
  case rlc => exact ⟨rfl, shiftLeft_or_bitByte_bits v _⟩
  case rl => exact ⟨rfl, shiftLeft_or_bitByte_bits v cin⟩
  case sla =>
    have zeroIn : (rotate8 .sla v cin).1 = (v <<< 1) ||| bitByte false := BitVec.or_zero.symm
    exact ⟨rfl, zeroIn ▸ shiftLeft_or_bitByte_bits v false⟩
  case rrc => exact ⟨rfl, shiftRight_or_bitByte_bits v _⟩
  case rr => exact ⟨rfl, shiftRight_or_bitByte_bits v cin⟩
  case srl =>
    have zeroIn : (rotate8 .srl v cin).1 = (v >>> 1) ||| (bitByte false <<< 7) := BitVec.or_zero.symm
    exact ⟨rfl, zeroIn ▸ shiftRight_or_bitByte_bits v false⟩
  case sra =>
    have signIn : (rotate8 .sra v cin).1 = (v >>> 1) ||| (bitByte (v.getLsbD 7) <<< 7) := by
      rw [← and_bit7_eq_bitByte]; rfl
    exact ⟨rfl, signIn ▸ shiftRight_or_bitByte_bits v (v.getLsbD 7)⟩
  case swap => exact ⟨rfl, swap_bits v⟩

theorem clearBit_bits (b : Fin 8) (v : Byte) (i : Nat) :
    (v &&& ~~~bitMask b).getLsbD i = (v.getLsbD i && decide (i ≠ b.val)) := by
  rw [BitVec.getLsbD_and, BitVec.getLsbD_not, bitMask_getLsbD, decide_not]
  by_cases hi : i < 8
  · rw [decide_eq_true hi, Bool.true_and]
  · rw [BitVec.getLsbD_of_ge v i (by omega), Bool.false_and, Bool.false_and]

theorem setBit_bits (b : Fin 8) (v : Byte) (i : Nat) :
    (v ||| bitMask b).getLsbD i = (v.getLsbD i || decide (i = b.val)) := by
  rw [BitVec.getLsbD_or, bitMask_getLsbD]

/-! ### A result written -/

/-- The result and flags of a CB rotate or shift (R340). -/
def rotated (op : RotOp) (v : Byte) (cin : Bool) : Alu :=
  ⟨(rotate8 op v cin).1, decide ((rotate8 op v cin).1 = 0), false, false, (rotate8 op v cin).2⟩

/-- The result and flags of a rotate of A: Z is cleared (R330). -/
def rotatedA (op : RotOp) (a : Byte) (cin : Bool) : Alu :=
  ⟨(rotate8 op a cin).1, false, false, false, (rotate8 op a cin).2⟩

theorem rotWritten_of_flagsWritten {op : RotOp} {v : Byte} {s t : State}
    (h : (rotated op v s.flagC).FlagsWritten t) : RotWritten op v s (rotate8 op v s.flagC).1 t :=
  ⟨_, rotate8_gives op v s.flagC, h⟩

section
variable {i : Instr} {len cyc : Nat}

theorem quiet_of_rotateA {op : RotOp} (h : ∀ s, exec i s = rotateA op s) :
    Quiet i (past 1) (fun _ => 4) fun s t =>
      (∃ cout, RotGives op s.a s.flagC t.a cout ∧ FlagsBecome false false false cout t) ∧
        (∀ q : Reg8, q ≠ .a → t.reg8 q = s.reg8 q) ∧ t.sp = s.sp := by
  refine quiet_of_takesResult (x := fun s => rotatedA op s.a s.flagC) h fun s t ht =>
    ⟨⟨_, ?bits, ht.flags⟩, ht.kept, ht.sp⟩
  case bits =>
    rw [show t.a = _ from ht.value]
    exact rotate8_gives op s.a s.flagC

/-- An instruction without a bus access whose one update is the write of a register. -/
theorem quiet_of_setReg8 {r : Reg8} {v : State → Byte} {post : State → State → Prop}
    (h : ∀ s, exec i s = complete cyc ((s.advance len).setReg8 r (v s)))
    (hpost : ∀ s t, t.reg8 r = v s → post s t) :
    Quiet i (past len) (fun _ => cyc) fun s t =>
      post s t ∧ (∀ q : Reg8, q ≠ r → t.reg8 q = s.reg8 q) ∧ t.f = s.f ∧ t.sp = s.sp :=
  quiet_intro h (fun s => by simp [past]) (fun s => (Unseen.refl (s.advance len)).setReg8 r (v s)) fun s =>
    ⟨hpost s _ (by simp), fun q hq => by simp [hq], by simp, by simp⟩

/-- A read and a write at HL, and nothing after them. -/
theorem readModifyWrites_of_complete {w : Byte → Byte}
    (h : ∀ s, exec i s = memRead s.hl (s.advance len) fun v s1 => memWrite s.hl (w v) s1 (complete cyc)) :
    ReadModifyWrites i len cyc (fun _ => w) fun _ s t => t.f = s.f :=
  readModifyWrites_intro h (fun _ _ s1 => Unseen.refl s1) (fun _ _ _ => ⟨fun _ => rfl, rfl⟩) fun _ _ _ _ hf => hf

end

/-! ### The statements -/

/-- Settles O44: each is the rotate of R340 on A with Z passed as 0. -/
theorem accumulatorRotatesClearZ : Obligations.AccumulatorRotatesClearZ :=
  ⟨rfl, quiet_of_rotateA fun _ => rfl, rfl, quiet_of_rotateA fun _ => rfl, rfl, quiet_of_rotateA fun _ => rfl, rfl,
    quiet_of_rotateA fun _ => rfl⟩

/-- Settles O45: the register takes the result of `rotate8`, and F its flags. -/
theorem rotatesOnRegister : Obligations.RotatesOnRegister := by
  intro op r
  refine ⟨encode_formRotReg op r, quiet_of_takesResult (x := fun s => rotated op (s.reg8 r) s.flagC)
    (exec_formRotReg op r) fun s t h => ⟨?written, h.kept, h.sp⟩⟩
  case written =>
    rw [h.value]
    exact rotWritten_of_flagsWritten h.flags

/-- Settles O46: the byte written is the result of `rotate8` on the byte read, with the C of before the step. -/
theorem rotatesOnMemory : Obligations.RotatesOnMemory := by
  intro op
  exact ⟨encode_formRotMem op, fun v c => (rotate8 op v c).1, readModifyWrites_intro
    (u := fun v s s2 => s2.setAluFlags (rotated op v s.flagC)) (exec_formRotMem op)
    (fun v s s1 => (Unseen.refl s1).setAluFlags _) (fun v s s1 => ⟨fun q => by simp, rfl⟩)
    fun v s s2 _ _ => rotWritten_of_flagsWritten (flagsBecome_of_f rfl)⟩

/-- Settles O47: F is the one register written, with C passed its old value; the (HL) form reads before it. -/
theorem bitTestsOneBit : Obligations.BitTestsOneBit := by
  refine ⟨fun b r => ⟨encode_formBitReg b r, quiet_of_setFlags (exec_formBitReg b r)⟩,
    fun b => ⟨encode_formBitMem b, ?mem⟩⟩
  case mem =>
    exact readsOnce_intro (exec_formBitMem b) (fun v s s1 => (Unseen.refl s1).setFlags _ _ _ _)
      fun v s => ⟨flagsBecome_of_f rfl, fun q => by simp, by simp⟩

/-- Settles O48: the mask has the named bit alone. -/
theorem resAndSetOnRegister : Obligations.ResAndSetOnRegister := by
  intro b r
  refine ⟨encode_formResReg b r, quiet_of_setReg8 (exec_formResReg b r) fun s t ht i => ?clear,
    encode_formSetReg b r, quiet_of_setReg8 (exec_formSetReg b r) fun s t ht i => ?set⟩
  case clear => rw [ht]; exact clearBit_bits b (s.reg8 r) i
  case set => rw [ht]; exact setBit_bits b (s.reg8 r) i

/-- Settles O49: the byte written is the byte read, masked. -/
theorem resAndSetOnMemory : Obligations.ResAndSetOnMemory := by
  intro b
  exact ⟨encode_formResMem b,
    ⟨fun v => v &&& ~~~bitMask b, clearBit_bits b, readModifyWrites_of_complete (exec_formResMem b)⟩,
    encode_formSetMem b,
    ⟨fun v => v ||| bitMask b, setBit_bits b, readModifyWrites_of_complete (exec_formSetMem b)⟩⟩

end Sys2Proof.Machine
end

section
/-! SUPPORT. Control flow (46_control.md R380 to R390): the encoding and the meaning of each form, the target of a
relative jump as a number, and how a jump, a call and a return complete. -/

namespace Sys2Proof.Machine

/-! ### The forms -/

theorem encode_formJpIf (cc : Cond) (n : Word) :
    encode (formJpIf cc n) = [BitVec.ofNat 8 (0xC2 + 8 * cc.field), n.extractLsb' 0 8, n.extractLsb' 8 8] := by
  cases cc <;> rfl

theorem encode_formJrIf (cc : Cond) (e : Byte) :
    encode (formJrIf cc e) = [BitVec.ofNat 8 (0x20 + 8 * cc.field), e] := by
  cases cc <;> rfl

theorem encode_formCallIf (cc : Cond) (n : Word) :
    encode (formCallIf cc n) = [BitVec.ofNat 8 (0xC4 + 8 * cc.field), n.extractLsb' 0 8, n.extractLsb' 8 8] := by
  cases cc <;> rfl

theorem encode_formRetIf (cc : Cond) : encode (formRetIf cc) = [BitVec.ofNat 8 (0xC0 + 8 * cc.field)] := by
  cases cc <;> rfl

theorem encode_formRst (k : Fin 8) : encode (formRst k) = [BitVec.ofNat 8 (0xC7 + 8 * k.val)] := by
  fin_cases k <;> rfl

theorem exec_formJpIf (cc : Cond) (n : Word) (s : State) : exec (formJpIf cc n) s = jumpAbsIf cc n s := by
  cases cc <;> rfl

theorem exec_formJrIf (cc : Cond) (e : Byte) (s : State) : exec (formJrIf cc e) s = jumpRelIf cc e s := by
  cases cc <;> rfl

theorem exec_formCallIf (cc : Cond) (n : Word) (s : State) : exec (formCallIf cc n) s = callIf cc n s := by
  cases cc <;> rfl

theorem exec_formRetIf (cc : Cond) (s : State) : exec (formRetIf cc) s = returnIf cc s := by
  cases cc <;> rfl

theorem exec_formRst (k : Fin 8) (s : State) : exec (formRst k) s = callTo (restartVector k) 1 16 s := by
  fin_cases k <;> rfl

/-! ### Conditions and targets -/

section
variable {cc : Cond} {s : State} {taken notTaken : Result}

theorem condHolds_iff : condHolds cc s ↔ s.cond cc = true := by
  cases cc <;> simp [condHolds, State.cond]

theorem ite_cond_of_condHolds (h : condHolds cc s) : (if s.cond cc then taken else notTaken) = taken :=
  if_pos (condHolds_iff.mp h)

theorem ite_cond_of_not_condHolds (h : ¬condHolds cc s) : (if s.cond cc then taken else notTaken) = notTaken :=
  if_neg (mt condHolds_iff.mpr h)

end

/-- R383: the sum is taken modulo 2^16, so it can be taken on the numbers. -/
theorem relTarget_eq_ofInt (e : Byte) (s : State) :
    s.relTarget e = BitVec.ofInt 16 ((s.pc.toNat : Int) + 2 + displacement e) := by
  have postFetch : BitVec.ofInt 16 ((s.pc.toNat : Int) + 2) = (s.advance 2).pc := by
    rw [BitVec.ofInt_add, BitVec.ofInt_natCast, BitVec.ofNat_toNat, BitVec.setWidth_eq]; rfl
  rw [BitVec.ofInt_add, postFetch, displacement_eq_toInt]
  rfl

theorem restartVector_eq (k : Fin 8) : restartVector k = BitVec.ofNat 16 (8 * k.val) :=
  congrArg (BitVec.ofNat 16) (Nat.mul_comm ..)

/-! ### Only PC written -/

/-- Every register but PC holds what it held. -/
def RegistersKept (s t : State) : Prop := SameReg8 s t ∧ t.f = s.f ∧ t.sp = s.sp

theorem registersKept_setPc_report (pc : Word) (cyc : Nat) (s : State) :
    RegistersKept s ((s.setPc pc).report cyc) :=
  ⟨fun q => by simp, rfl, rfl⟩

/-- A jump in every state; the move past the instruction and the jump are one write of PC. -/
theorem quiet_of_setPc {i : Instr} {cyc : Nat} {pc : State → Word}
    (h : ∀ s, exec i s = complete cyc (s.setPc (pc s))) : Quiet i pc (fun _ => cyc) RegistersKept :=
  quiet_intro h (fun _ => rfl) (fun s => Unseen.refl (s.setPc (pc s))) fun s =>
    registersKept_setPc_report (pc s) cyc s

/-- One branch of a conditional jump; with the PC past the instruction, the branch not taken of any conditional
form. -/
theorem completesWith_of_setPc {r : Result} {s : State} {pc : Word} {cyc : Nat} (h : r = complete cyc (s.setPc pc)) :
    CompletesWith r s pc cyc [] fun s t => SameMemory s t ∧ RegistersKept s t :=
  ⟨_, h, rfl, rfl, rfl, ⟨rfl, rfl⟩, ⟨rfl, rfl, rfl, rfl⟩, fun _ => rfl, registersKept_setPc_report pc cyc s⟩

/-! ### PC pushed and popped -/

theorem pushesWord_of_callTo {r : Result} {s : State} {target : Word} {len cyc : Nat}
    (h : r = callTo target len cyc s) : PushesWord r s (past len s) (past len s) target cyc :=
  pushesWord_intro h fun _ _ => rfl

theorem popsWord_of_returnIn {r : Result} {s : State} {cyc : Nat} (h : r = returnIn cyc s) :
    PopsWord r s (past 1 s) id cyc SameControl fun _ s t => SameReg8 s t ∧ t.f = s.f :=
  popsWord_intro h (fun v s1 => ⟨rfl, rfl, rfl, ⟨rfl, rfl⟩, rfl, rfl⟩) (fun _ _ _ => rfl)
    fun v s1 hreg hf hcontrol => ⟨hcontrol, fun q => by simp [hreg q], hf⟩

/-! ### The statements -/

/-- Settles O50: each form writes PC alone, the conditional one with a count of its own for each branch. -/
theorem absoluteJumpsSetPc : Obligations.AbsoluteJumpsSetPc := by
  refine ⟨fun n => ⟨rfl, quiet_of_setPc fun _ => rfl⟩,
    fun cc n => ⟨encode_formJpIf cc n, fun s => ⟨fun h => ?taken, fun h => ?notTaken⟩⟩,
    rfl, quiet_of_setPc fun _ => rfl⟩
  case taken => exact completesWith_of_setPc ((exec_formJpIf cc n s).trans (ite_cond_of_condHolds h))
  case notTaken => exact completesWith_of_setPc ((exec_formJpIf cc n s).trans (ite_cond_of_not_condHolds h))

/-- Settles O51: the target is the rule's number modulo 2^16, and PC alone is written. -/
theorem relativeJumpsCountFromPostFetchPc : Obligations.RelativeJumpsCountFromPostFetchPc := by
  unfold Obligations.RelativeJumpsCountFromPostFetchPc
  simp only [← relTarget_eq_ofInt]
  refine ⟨fun e => ⟨rfl, quiet_of_setPc fun _ => rfl⟩,
    fun cc e => ⟨encode_formJrIf cc e, fun s => ⟨fun h => ?taken, fun h => ?notTaken⟩⟩⟩
  case taken => exact completesWith_of_setPc ((exec_formJrIf cc e s).trans (ite_cond_of_condHolds h))
  case notTaken => exact completesWith_of_setPc ((exec_formJrIf cc e s).trans (ite_cond_of_not_condHolds h))

/-- Settles O52: each is a push of the PC past the instruction and then the jump; a call not taken pushes nothing. -/
theorem callsPushThePostFetchPc : Obligations.CallsPushThePostFetchPc := by
  refine ⟨fun n s => ⟨rfl, pushesWord_of_callTo rfl⟩,
    fun cc n s => ⟨encode_formCallIf cc n, fun h => ?taken, fun h => ?notTaken⟩,
    fun k s => ⟨encode_formRst k, ?restart⟩⟩
  case taken => exact pushesWord_of_callTo ((exec_formCallIf cc n s).trans (ite_cond_of_condHolds h))
  case notTaken => exact completesWith_of_setPc ((exec_formCallIf cc n s).trans (ite_cond_of_not_condHolds h))
  case restart =>
    rw [← restartVector_eq]
    exact pushesWord_of_callTo (exec_formRst k s)

/-- Settles O53: PC takes the word popped, after both reads; a return not taken reads nothing. -/
theorem returnsPopPc : Obligations.ReturnsPopPc := by
  refine ⟨fun s => ⟨rfl, popsWord_of_returnIn rfl⟩,
    fun cc s => ⟨encode_formRetIf cc, fun h => ?taken, fun h => ?notTaken⟩⟩
  case taken => exact popsWord_of_returnIn ((exec_formRetIf cc s).trans (ite_cond_of_condHolds h))
  case notTaken => exact completesWith_of_setPc ((exec_formRetIf cc s).trans (ite_cond_of_not_condHolds h))

/-- Settles O54: both control bits are written with PC, after both reads. -/
theorem retiPopsPcAndEnablesAtOnce : Obligations.RetiPopsPcAndEnablesAtOnce := by
  intro s
  have meaning : exec .reti s = pop16 (s.advance 1) fun v s1 => complete 16 ((s1.setPc v).setIme true false) := rfl
  refine ⟨rfl, popsWord_intro meaning (fun v s1 => ⟨rfl, rfl, rfl, ⟨rfl, rfl⟩, rfl, rfl⟩) (fun _ _ _ => rfl)
    fun v s1 hreg hf ⟨_, _, hrun, hfault⟩ => ⟨⟨rfl, rfl, hrun, hfault⟩, fun q => by simp [hreg q], hf⟩⟩

end Sys2Proof.Machine
end

section
/-! SUPPORT. A Running step taken apart (40_dispatch.md R140 to R142, R145, R150): the fetches, which change only the
record and the count of device accesses, and then either the fault of a fetch or the instruction and the end of the
step. -/

namespace Sys2Proof.Machine

/-! ### The fetches of any bytes -/

/-- What fetches can do to a state: outputs made, and accesses to devices counted (R72; log 4). -/
def Fetched (s u : State) : Prop := ∃ n es, u = { s with deviceAccesses := n, trace := es }

/-- R450: `t` is `s` after fetches and the record of the one rejected, at `a`. -/
def StopsAtFetch (s : State) (a : Word) (t : State) : Prop := ∃ w, Fetched s w ∧ t = w.raise .fetch a

/-- R100: an address that an instruction at `pc`, of at most three bytes, is fetched from. -/
def NearPc (pc a : Word) : Prop := a = pc ∨ a = pc + 1 ∨ a = pc + 2

/-- Only the count of device accesses moves with an access. -/
theorem State.countAccess_eq (a : Word) (s : State) :
    s.countAccess a = { s with deviceAccesses := s.deviceAccesses + (s.region a).backing.accesses } := by
  cases h : (s.region a).backing <;> simp [State.countAccess, Backing.accesses, h]

section
variable {s u t : State}

theorem Fetched.refl (s : State) : Fetched s s := ⟨_, _, rfl⟩

theorem Fetched.countAccess (h : Fetched s u) (a : Word) : Fetched s (u.countAccess a) := by
  obtain ⟨n, es, rfl⟩ := h
  exact ⟨_, _, State.countAccess_eq a _⟩

theorem Fetched.emit (h : Fetched s u) (e : Event) : Fetched s (u.emit e) := by
  obtain ⟨n, es, rfl⟩ := h
  exact ⟨_, _, rfl⟩

theorem fetchByte_next {a : Word} {next : Byte → State → Result} (hu : Fetched s u)
    (h : fetchByte a u next = .next t) :
    StopsAtFetch s a t ∨ ∃ v w, Fetched s w ∧ next v w = .next t := by
  obtain ⟨-, rfl⟩ | ⟨v, -, hnext⟩ := busRead_next.1 h
  · exact .inl ⟨_, hu.countAccess a, rfl⟩
  · exact .inr ⟨v, _, (hu.countAccess a).emit _, hnext⟩

/-- The rest of an instruction of known format: its fetches are from the address after the first byte, and the next
one. -/
theorem fetchRest_next {op : Byte} {d : Decoding} (hd : Format op d) {pc : Word} {next : Instr → State → Result}
    (hu : Fetched s u) (h : fetchRest d (pc + 1) u next = .next t) :
    (∃ a, NearPc pc a ∧ StopsAtFetch s a t) ∨ ∃ i w, Fetched s w ∧ next i w = .next t := by
  have second : NearPc pc (pc + 1) := .inr (.inl rfl)
  have third : NearPc pc (pc + 1 + 1) := .inr (.inr (BitVec.add_assoc ..))
  cases hd with
  | p1 => exact .inr ⟨_, u, hu, h⟩
  | p2 =>
    obtain hstop | ⟨n, w, hw, hnext⟩ := fetchByte_next hu h
    · exact .inl ⟨_, second, hstop⟩
    · exact .inr ⟨_, w, hw, hnext⟩
  | p3 =>
    obtain hstop | ⟨lo, v, hv, hrest⟩ := fetchByte_next hu h
    · exact .inl ⟨_, second, hstop⟩
    obtain hstop | ⟨hi, w, hw, hnext⟩ := fetchByte_next hv hrest
    · exact .inl ⟨_, third, hstop⟩
    · exact .inr ⟨_, w, hw, hnext⟩

theorem fetchInstr_next {next : Instr → State → Result} (h : fetchInstr s next = .next t) :
    (∃ a, NearPc s.pc a ∧ StopsAtFetch s a t) ∨ ∃ i w, Fetched s w ∧ next i w = .next t := by
  obtain hstop | ⟨op, w, hw, hrest⟩ := fetchByte_next (.refl s) h
  · exact .inl ⟨s.pc, .inl rfl, hstop⟩
  · exact fetchRest_next (decodeFrom_format op) hw hrest

/-! ### The Running step -/

theorem endStep_eq_next {pending : Bool} {r : Result} (h : endStep pending r = .next t) :
    ∃ u, r = .next u ∧ endStep pending (.next u) = .next t := by
  cases r with
  | next u => exact ⟨u, rfl, h⟩
  | fault | refused => cases h

theorem endStep_of_fault (pending : Bool) (hu : u.fault ≠ none) : endStep pending (.next u) = .next u :=
  (delayedEnableAtEndOfStep pending u).2 hu

theorem endStep_fault {pending : Bool} (h : endStep pending (.next u) = .next t) : t.fault = u.fault := by
  obtain rfl := Host.Outcome.next.inj h
  rw [promoteIme_eq]
  split <;> rfl

/-- A Running step ends at the fault of a fetch, or it is the end of the step after an instruction run on the state with
its fetches recorded. -/
theorem runningStep_next (h : runningStep s = .next t) :
    (∃ a, NearPc s.pc a ∧ StopsAtFetch s a t) ∨
      ∃ i w, Fetched s w ∧ endStep s.imePending (exec i w) = .next t := by
  obtain ⟨u, hfetch, hend⟩ := endStep_eq_next h
  obtain ⟨a, ha, w, hw, rfl⟩ | ⟨i, w, hw, hexec⟩ := fetchInstr_next hfetch
  · rw [endStep_of_fault _ (by simp)] at hend
    exact .inl ⟨a, ha, w, hw, (Host.Outcome.next.inj hend).symm⟩
  · exact .inr ⟨i, w, hw, by rw [hexec, hend]⟩

end

theorem step_of_reset_move {s : State} {p : Config.ResetProfile} {draw : Config.ResetRegisters} {rest : List HostMove}
    (h : s.host = .reset p draw :: rest) : step s = .next (({ s with host := rest } : State).resetTo p draw) := by
  simp only [step, nextMove, h]

end Sys2Proof.Machine
end

section
/-! SUPPORT. The other invariants that every step keeps: memory in its canonical form (log 1, log 17), and a cycle count
of whole machine cycles (R521, D7). -/

namespace Sys2Proof.Machine

/-! ### Memory -/

theorem Update.memoryCanonical {x y : State} (hxy : Update StepControlWrite x y) (h : x.memoryCanonical) :
    y.memoryCanonical := by
  cases hxy with
  | write a v => simpa [State.memoryCanonical] using State.store_wf a v x h
  | control hw =>
    obtain ⟨enabled, pending, run, rfl⟩ := hw.only_control
    exact h
  | setPc | setReg8 | setPair | setFlags | setF | read => simpa [State.memoryCanonical] using h

/-- Settles O12: of all updates only a completed write touches memory, through a store that keeps the form. -/
theorem memoryStaysCanonical : Obligations.MemoryStaysCanonical := by
  intro s t hs hstep
  obtain ⟨p, draw, rest, -, rfl⟩ | ⟨-, u, hreach, hfin⟩ := step_next hstep
  · exact hs
  have hu : u.memoryCanonical := hreach.keeps (fun _ _ => Update.memoryCanonical) hs
  cases hfin <;> simpa [State.memoryCanonical] using hu

/-- Settles O14: F is the draw's, masked, and nothing is listed or counted yet. -/
theorem resetMeetsTheInvariants : Obligations.ResetMeetsTheInvariants :=
  ⟨mask_low _, State.reset_memory_wf, rfl⟩

/-! ### Cycles -/

/-- R120: every count of the table is a multiple of 4. -/
theorem lookup_counts_mod_four : ∀ (cbPrefix : Bool) (byte : Byte),
    ∀ n ∈ (lookup cbPrefix byte).cycles :: (lookup cbPrefix byte).cyclesTaken.toList, n % 4 = 0 := by
  decide

theorem mod_four_of_mem_cycleCounts {i : Instr} {n : Nat} (h : n ∈ cycleCounts i) : n % 4 = 0 := by
  unfold cycleCounts descriptor at h
  split at h
  · obtain rfl := List.mem_singleton.mp h
    rfl
  · exact lookup_counts_mod_four _ _ n h
  · split at h <;> exact lookup_counts_mod_four _ _ n h

section
variable {s t : State}

theorem State.wholeMachineCycles_add {n : Nat} (hs : s.wholeMachineCycles) (hn : n % 4 = 0)
    (ht : t.cycles = s.cycles + n) : t.wholeMachineCycles := by
  rw [State.wholeMachineCycles] at hs ⊢
  omega

theorem exec_wholeMachineCycles {i : Instr} (hs : s.wholeMachineCycles) (h : exec i s = .next t)
    (ht : t.fault = none) : t.wholeMachineCycles := by
  obtain ⟨n, hn, hcycles⟩ := meaning_adds_cycleCounts (exec_meaning i) s t h ht
  exact State.wholeMachineCycles_add hs (mod_four_of_mem_cycleCounts hn) hcycles

theorem runningStep_wholeMachineCycles (hs : s.wholeMachineCycles) (h : runningStep s = .next t)
    (ht : t.fault = none) : t.wholeMachineCycles := by
  obtain ⟨a, -, w, -, rfl⟩ | ⟨i, w, ⟨n, es, rfl⟩, hend⟩ := runningStep_next h
  · cases ht
  · obtain ⟨u, hexec, hu, rfl⟩ := endStep_next hend ht
    have whole : u.wholeMachineCycles :=
      exec_wholeMachineCycles (s := { s with deviceAccesses := n, trace := es }) hs hexec hu
    rw [promoteIme_eq]
    exact whole

/-- R146: an idle step costs one machine cycle, a wake none. -/
theorem haltedStep_wholeMachineCycles {wake : Bool} (hs : s.wholeMachineCycles) (h : haltedStep wake s = .next t) :
    t.wholeMachineCycles := by
  cases wake <;> cases h
  · exact State.wholeMachineCycles_add hs (by decide : Config.haltIdleCycles % 4 = 0) rfl
  · exact hs

theorem coreStep_wholeMachineCycles {wake stopReq : Bool} (hs : s.wholeMachineCycles)
    (h : coreStep wake stopReq s = .next t) (ht : t.fault = none) : t.wholeMachineCycles := by
  unfold coreStep at h
  split at h
  · cases h
  split at h
  · exact runningStep_wholeMachineCycles hs h ht
  · exact haltedStep_wholeMachineCycles hs h

/-- R460: interrupt entry costs 20 cycles. -/
theorem interruptEntry_wholeMachineCycles {v : Word} (hs : s.wholeMachineCycles)
    (h : interruptEntry v s = .next t) (ht : t.fault = none) : t.wholeMachineCycles := by
  have adds : Adds [20] s.cycles (interruptEntry v s) := adds_push16 rfl fun _ h1 => adds_complete h1 (.head _)
  obtain ⟨n, hn, hcycles⟩ := adds t h ht
  obtain rfl := List.mem_singleton.mp hn
  exact State.wholeMachineCycles_add hs rfl hcycles

theorem step_wholeMachineCycles_of_no_fault (hs : s.wholeMachineCycles) (h : step s = .next t)
    (ht : t.fault = none) : t.wholeMachineCycles := by
  cases hhost : s.host with
  | nil =>
    rw [step_of_no_move hhost, unlessFaulted_next] at h
    obtain ⟨-, hcore⟩ := h
    exact coreStep_wholeMachineCycles hs hcore ht
  | cons move rest =>
    cases move with
    | step wake stopReq =>
      rw [step_of_step_move hhost, unlessFaulted_next] at h
      obtain ⟨-, hcore⟩ := h
      exact coreStep_wholeMachineCycles (s := { s with host := rest }) hs hcore ht
    | interruptEntry v =>
      rw [step_of_entry_move hhost, hostEntry_next] at h
      obtain ⟨-, hentry⟩ := h
      exact interruptEntry_wholeMachineCycles (s := { s with host := rest }) hs hentry ht
    | reset p draw =>
      rw [step_of_reset_move hhost] at h
      cases h
      rfl

end

/-- Settles O13: a step that ends at a fault adds nothing; any other adds a count of the table, of interrupt entry or of
a Halted step, or resets the counter. -/
theorem cyclesStayWholeMachineCycles : Obligations.CyclesStayWholeMachineCycles := by
  intro s t hs hstep
  obtain ⟨p, draw, rest, -, rfl⟩ | ⟨hnofault, u, hreach, hfin⟩ := step_next hstep
  · rfl
  have hu : Unreported { s with host := s.host.tail } u := hreach.keeps (fun _ _ => Unreported.update) (.refl _)
  cases hfin with
  | report n => exact step_wholeMachineCycles_of_no_fault hs hstep (by simp [hu.fault, hnofault])
  | readFault | writeFault => simpa [State.wholeMachineCycles, hu.cycles] using hs

end Sys2Proof.Machine
end

section
/-! SUPPORT. What every instruction answers, and what it leaves of the platform: a next state in every state, whose
fault record is the old one or that of a read or a write (R453, R465, R451); the bus map, the host's moves and the
outputs kept (log 3, log 7, log 11). -/

namespace Sys2Proof.Machine

/-! ### The answer of an instruction -/

/-- The record of a rejected access that is no fetch, or none new: `before` is the record at the start. -/
def DataFault (before after : Option BusFault) : Prop :=
  after = before ∨ (∃ a, after = some ⟨.read, a⟩) ∨ ∃ a, after = some ⟨.write, a⟩

/-- A next state, ended at most at the fault of a read or a write. -/
def Answers (before : Option BusFault) (r : Result) : Prop := ∃ t, r = .next t ∧ DataFault before t.fault

section
variable {before : Option BusFault} {s : State}

theorem answers_complete {n : Nat} (hs : s.fault = before) : Answers before (complete n s) := ⟨_, rfl, .inl hs⟩

theorem answers_ite {b : Bool} {r q : Result} (hr : Answers before r) (hq : Answers before q) :
    Answers before (if b then r else q) := by
  cases b
  · exact hq
  · exact hr

theorem answers_memRead {a : Word} {next : Byte → State → Result} (hs : s.fault = before)
    (hnext : ∀ v s1, s1.fault = before → Answers before (next v s1)) : Answers before (memRead a s next) := by
  cases hv : s.readAnswer a with
  | none => exact ⟨_, memRead_of_rejected hv, .inr (.inl ⟨a, rfl⟩)⟩
  | some v =>
    rw [memRead_of_answer hv]
    exact hnext v _ (by simp [hs])

theorem answers_memWrite {a : Word} {v : Byte} {next : State → Result} (hs : s.fault = before)
    (hnext : ∀ s1, s1.fault = before → Answers before (next s1)) : Answers before (memWrite a v s next) := by
  cases hw : s.writeAccepted a with
  | false => exact ⟨_, memWrite_of_rejected hw, .inr (.inr ⟨a, rfl⟩)⟩
  | true =>
    rw [memWrite_of_accepted hw]
    exact hnext _ (by simp [hs])

theorem answers_push16 {v : Word} {next : State → Result} (hs : s.fault = before)
    (hnext : ∀ s1, s1.fault = before → Answers before (next s1)) : Answers before (push16 v s next) := by
  unfold push16
  exact answers_memWrite hs fun _ h1 => answers_memWrite h1 hnext

theorem answers_pop16 {next : Word → State → Result} (hs : s.fault = before)
    (hnext : ∀ v s1, s1.fault = before → Answers before (next v s1)) : Answers before (pop16 s next) := by
  unfold pop16
  exact answers_memRead hs fun _ _ h1 => answers_memRead h1 fun _ _ h2 => hnext _ _ h2

theorem answers_callTo {target : Word} {len cyc : Nat} : Answers s.fault (callTo target len cyc s) :=
  answers_push16 rfl fun _ h1 => answers_complete h1

theorem answers_returnIn {cyc : Nat} : Answers s.fault (returnIn cyc s) :=
  answers_pop16 rfl fun _ _ h1 => answers_complete h1

end

/-- Every meaning is reads and writes and then its completion; no update before that touches the fault record. -/
theorem meaning_answers {m : State → Result} {i : Instr} (h : Meaning m i) (s : State) : Answers s.fault (m s) := by
  cases h
  case loadRegReg | loadRegImm | loadPairImm | loadSpHl | loadHlSpOffset | aluReg | aluImm | incReg | decReg |
      adjustDecimal | complementA | setCarry | complementCarry | addHlPair | incPair | decPair | addSpOffset |
      rotateALeftCircular | rotateARightCircular | rotateALeft | rotateARight | rotateReg | testBitReg | resetBitReg |
      setBitReg | jumpAbs | jumpHl | jumpRel | nop | prefixCb | illegal | stop | halt | di | ei =>
    exact answers_complete (by simp)
  case loadRegHl | loadABc | loadADe | loadAHigh | loadAHighC | loadAAbs | loadAInc | loadADec | aluMem | testBitMem =>
    exact answers_memRead rfl fun _ _ h1 => answers_complete (by simp [h1])
  case storeHlReg | storeHlImm | storeABc | storeADe | storeAHigh | storeAHighC | storeAAbs | storeAInc | storeADec =>
    exact answers_memWrite rfl fun _ h1 => answers_complete (by simp [h1])
  case storeSp => exact answers_memWrite rfl fun _ h1 => answers_memWrite h1 fun _ h2 => answers_complete h2
  case incMem | decMem | rotateMem | resetBitMem | setBitMem =>
    exact answers_memRead rfl fun _ _ h1 => answers_memWrite h1 fun _ h2 => answers_complete (by simp [h2])
  case pushPair => exact answers_push16 rfl fun _ h1 => answers_complete h1
  case popPair rr =>
    exact answers_pop16 rfl fun _ _ h1 => answers_complete (by cases rr <;> simp [State.setStackPair, h1])
  case reti => exact answers_pop16 rfl fun _ _ h1 => answers_complete h1
  case jumpAbsIf | jumpRelIf => exact answers_ite (answers_complete rfl) (answers_complete rfl)
  case call | restart => exact answers_callTo
  case callIf => exact answers_ite answers_callTo (answers_complete rfl)
  case ret => exact answers_returnIn
  case returnIf => exact answers_ite answers_returnIn (answers_complete rfl)

theorem exec_answers (i : Instr) (s : State) : Answers s.fault (exec i s) := meaning_answers (exec_meaning i) s

/-- Settles O20: exec of every instruction is one of the meanings, and each answers a next state whether or not the bus
accepts its accesses. -/
theorem everyInstructionExecutes : Obligations.EveryInstructionExecutes := by
  intro i s
  obtain ⟨t, hexec, -⟩ := exec_answers i s
  exact ⟨t, hexec⟩

/-- R450: the fault of an instruction run in a core without one is no fetch. -/
theorem exec_fault_ne_fetch {i : Instr} {s t : State} (h : exec i s = .next t) (hs : s.fault = none) (a : Word) :
    t.fault ≠ some ⟨.fetch, a⟩ := by
  obtain ⟨u, hexec, hkind⟩ := exec_answers i s
  obtain rfl := Host.Outcome.next.inj (h.symm.trans hexec)
  obtain hsame | ⟨b, hread⟩ | ⟨b, hwrite⟩ := hkind
  · simp [hsame, hs]
  · simp [hread]
  · simp [hwrite]

/-! ### The platform -/

/-- From `s` to `t` the platform stayed and no device access was taken back. -/
structure PlatformKept (s t : State) : Prop where
  platform : SamePlatform s t
  accesses : s.deviceAccesses ≤ t.deviceAccesses

section
variable {s x y : State}

theorem PlatformKept.refl (s : State) : PlatformKept s s := ⟨⟨rfl, rfl⟩, Nat.le_refl _⟩

/-- An update that leaves the platform and the count of device accesses alone. -/
theorem PlatformKept.of_same (h : PlatformKept s x) (hb : y.busMap = x.busMap) (hh : y.host = x.host)
    (hd : y.deviceAccesses = x.deviceAccesses) : PlatformKept s y :=
  ⟨⟨hb.trans h.platform.1, hh.trans h.platform.2⟩, hd ▸ h.accesses⟩

theorem PlatformKept.countAccess (h : PlatformKept s x) (a : Word) : PlatformKept s (x.countAccess a) := by
  obtain ⟨⟨hbus, hhost⟩, haccesses⟩ := h
  exact ⟨⟨by simp [hbus], by simp [hhost]⟩, by rw [State.countAccess_deviceAccesses]; omega⟩

theorem PlatformKept.update (hxy : Update StepControlWrite x y) (h : PlatformKept s x) : PlatformKept s y := by
  cases hxy with
  | read k a v => exact (h.countAccess a).of_same rfl rfl rfl
  | write a v =>
    have stored : PlatformKept s (x.store a v) := h.of_same (by simp) (by simp) (by simp)
    exact (stored.countAccess a).of_same rfl rfl rfl
  | control hw =>
    obtain ⟨enabled, pending, run, rfl⟩ := hw.only_control
    exact h.of_same rfl rfl rfl
  | setPc | setReg8 | setPair | setFlags | setF => exact h.of_same (by simp) (by simp) (by simp)

theorem PlatformKept.finishes (hxy : Finishes x y) (h : PlatformKept s x) : PlatformKept s y := by
  cases hxy with
  | report => exact h.of_same rfl rfl rfl
  | readFault k a | writeFault a => exact (h.countAccess a).of_same rfl rfl rfl

end

/-- Settles O19: every update keeps the platform and makes outputs only, and the end adds to `cycles` or records a
fault. -/
theorem execKeepsThePlatform : Obligations.ExecKeepsThePlatform := by
  intro i s t hexec
  have start : Reaches StepControlWrite s s := .refl
  obtain ⟨u, hreach, hfin⟩ := start.exec i t hexec
  obtain ⟨hfault, hcycles, es, -, htrace⟩ := hreach.keeps (fun _ _ => Unreported.update) (.refl s)
  obtain ⟨⟨hbus, hhost⟩, haccesses⟩ := (hreach.keeps (fun _ _ => PlatformKept.update) (.refl s)).finishes hfin
  have ends : (∃ es, t.trace = es ++ s.trace) ∧ s.cycles ≤ t.cycles ∧
      (t.fault = s.fault ∨ ∃ record, t.fault = some record ∧ t.cycles = s.cycles) := by
    cases hfin with
    | report n => exact ⟨⟨.report n :: es, by simp [htrace]⟩, by simp [hcycles], .inl (by simp [hfault])⟩
    | readFault | writeFault =>
      exact ⟨⟨es, by simp [htrace]⟩, by simp [hcycles], .inr ⟨_, rfl, by simp [hcycles]⟩⟩
  obtain ⟨houts, hgrow, hrecord⟩ := ends
  exact ⟨hbus, hhost, houts, hgrow, haccesses, hrecord⟩

/-! ### The fault of a fetch -/

/-- R450, R150: a Running step that ends at the fault of a fetch is its fetches and the record, and nothing else. -/
theorem runningStep_of_fetch_fault {s t : State} {a : Word} (hs : s.fault = none) (h : runningStep s = .next t)
    (ht : t.fault = some ⟨.fetch, a⟩) : NearPc s.pc a ∧ StopsAtFetch s a t := by
  obtain ⟨b, hb, w, hw, rfl⟩ | ⟨i, w, ⟨n, es, rfl⟩, hend⟩ := runningStep_next h
  · obtain rfl : b = a := by simpa using ht
    exact ⟨hb, w, hw, rfl⟩
  · obtain ⟨u, hexec, hendu⟩ := endStep_eq_next hend
    exact absurd ((endStep_fault hendu).symm.trans ht) (exec_fault_ne_fetch hexec hs a)

/-- Settles O9: the first fetch is the opcode's, and a step that ends at the fault of any fetch is fetches and the
record. -/
theorem fetchFaultLeavesTheCoreUnmoved : Obligations.FetchFaultLeavesTheCoreUnmoved := by
  intro s t a wake rest hfault hrun hmove
  rw [step_of_running hfault hrun hmove]
  refine ⟨fun hrejected => ?opcode, fun hstep ht => ?any⟩
  case opcode =>
    have rejected : ({ s with host := rest } : State).readAnswer s.pc = none := hrejected
    rw [runningStep, fetchInstr, fetchByte, busRead_of_rejected rejected, endStep_of_fault _ (by simp),
      State.countAccess_eq, State.countAccess_eq]
    rfl
  case any =>
    obtain ⟨hnear, w, ⟨n, es, rfl⟩, rfl⟩ :=
      runningStep_of_fetch_fault (s := { s with host := rest }) hfault hstep ht
    exact ⟨rfl, fun q => by cases q <;> rfl, rfl, rfl, rfl, rfl, rfl, rfl, fun _ => rfl, hnear⟩

end Sys2Proof.Machine
end

section
/-! SUPPORT. The host's other moves (60_exceptions.md R460, R470; 70_reset_and_hazards.md R500 to R502): interrupt entry
on and against its precondition, and reset. -/

namespace Sys2Proof.Machine

/-! ### Interrupt entry -/

theorem State.advance_zero (s : State) : s.advance 0 = s := by simp [State.advance]

/-- R460: interrupt entry is a push of PC, with interrupts masked, that ends at the vector. -/
theorem interruptEntry_pushesWord (v : Word) (s : State) :
    PushesWord (interruptEntry v s) (s.setIme false false) s.pc s.pc v 20 := by
  have entry : interruptEntry v s =
      push16 s.pc ((s.setIme false false).advance 0) fun s1 => complete 20 (s1.setPc v) := by
    rw [State.advance_zero, interruptEntry]
  have pushes : PushesWord (interruptEntry v s) (s.setIme false false) (past 0 (s.setIme false false)) s.pc v 20 :=
    pushesWord_intro entry fun _ _ => rfl
  have unmoved : past 0 (s.setIme false false) = s.pc := BitVec.add_zero s.pc
  rwa [unmoved] at pushes

theorem State.entryAllowed_iff {s : State} :
    s.entryAllowed = true ↔ s.fault = none ∧ s.run = .running ∧ s.ime = true := by
  simp [State.entryAllowed, and_assoc]

/-- Settles O21: the step is the entry, a push from the state with interrupts masked. -/
theorem interruptEntryPushesPcAndMasks : Obligations.InterruptEntryPushesPcAndMasks := by
  intro s v rest hhost hfault hrun hime
  have allowed : ({ s with host := rest } : State).entryAllowed = true :=
    State.entryAllowed_iff.mpr ⟨hfault, hrun, hime⟩
  rw [step_of_entry_move hhost, hostEntry, if_pos allowed]
  have counted : ((({ s with host := rest } : State).setIme false false).countAccess (s.sp - 1)).writeAccepted
      (s.sp - 2) = (s.countAccess (s.sp - 1)).writeAccepted (s.sp - 2) :=
    State.writeAccepted_congr _ (by simp) (by simp [State.region])
  obtain ⟨hfirst, hreject⟩ := interruptEntry_pushesWord v { s with host := rest }
  refine ⟨fun h1 h2 => ?entered, fun h1 => ?firstRejected, fun h1 h2 => ?secondRejected⟩
  case entered =>
    obtain ⟨hcomplete, -⟩ := hfirst h1
    obtain ⟨t, ht, hpc, hcycles, htrace, ⟨hbus, hh⟩, ⟨hi, hp, hr, hf⟩, hsp, hreg, hflags, -, hstored⟩ :=
      hcomplete (counted.trans h2)
    exact ⟨t, ht, hpc, hsp, hi, hp, hr, hf.trans hfault, hcycles, hh, hbus, htrace,
      fun q => (hreg q).trans (by cases q <;> rfl), hflags, hstored⟩
  case firstRejected =>
    obtain ⟨t, ht, hf, hcycles, htrace, -, -, -, -, -, -, -, hmem⟩ := hreject h1
    exact ⟨t, ht, hf, hcycles, htrace, hmem⟩
  case secondRejected =>
    obtain ⟨-, hsecond⟩ := hfirst h1
    obtain ⟨t, ht, hf, hcycles, htrace, -, -, -, -, -, -, -, hmem⟩ := hsecond (counted.trans h2)
    exact ⟨t, ht, hf, hcycles, htrace, hmem⟩

/-- Settles O22: each of the three conditions bars the entry. -/
theorem entryAgainstPreconditionIsRefused : Obligations.EntryAgainstPreconditionIsRefused := by
  intro s v rest hhost hbroken
  have barred : ({ s with host := rest } : State).entryAllowed = false := by
    rw [Bool.eq_false_iff, ne_eq, State.entryAllowed_iff]
    rintro ⟨hfault, hrun, hime⟩
    obtain h | h | h := hbroken
    · exact absurd (h.symm.trans hime) (by decide)
    · exact absurd (h.symm.trans hrun) (by decide)
    · exact h hfault
  rw [step_of_entry_move hhost, hostEntry, barred]
  rfl

/-! ### Reset -/

/-- Settles O15: reset is taken whatever the state is, and each profile's registers are written as they stand. -/
theorem resetWritesTheProfile : Obligations.ResetWritesTheProfile := by
  intro s p draw rest hhost
  refine ⟨_, step_of_reset_move hhost, rfl, rfl, rfl, rfl, rfl, rfl, rfl, rfl, rfl, rfl,
    State.resetTo_lowNibbleZero p draw _, ?unspecified, ?dmgPostBoot⟩
  case unspecified =>
    rintro rfl
    refine ⟨rfl, rfl, rfl, rfl, rfl, rfl, rfl, rfl, rfl, ?_⟩
    simp [State.flagZ, State.flagN, State.flagH, State.flagC, State.resetTo, Config.ResetProfile.registers]
  case dmgPostBoot =>
    rintro rfl
    exact ⟨rfl, rfl, rfl, rfl, rfl, rfl, rfl, rfl, rfl, rfl⟩

end Sys2Proof.Machine
end

section
/-! SUPPORT. Control of the core and no-ops (47_misc.md R420 to R425), and the placeholder row (R113; log 12). -/

namespace Sys2Proof.Machine

theorem exec_of_mem_illegalInstrs {i : Instr} (h : i ∈ illegalInstrs) (s : State) : exec i s = noEffect s := by
  simp only [illegalInstrs, List.mem_cons, List.not_mem_nil, or_false] at h
  obtain rfl | rfl | rfl | rfl | rfl | rfl | rfl | rfl | rfl | rfl | rfl := h <;> rfl

/-- R425: with no effect, PC alone is written. -/
theorem quiet_of_noEffect {i : Instr} (h : ∀ s, exec i s = noEffect s) :
    Quiet i (past 1) (fun _ => 4) RegistersKept :=
  quiet_of_setPc h

/-- Settles O55: each of the twelve has no effect. -/
theorem nopAndIllegalBytesOnlyAdvance : Obligations.NopAndIllegalBytesOnlyAdvance := by
  refine ⟨rfl, rfl, fun i hi => quiet_of_noEffect ?_⟩
  obtain rfl | hillegal := hi
  · exact fun _ => rfl
  · exact exec_of_mem_illegalInstrs hillegal

/-- Settles O56: after 0xCB a decode takes one more byte, and the row's own meaning has no effect. -/
theorem placeholderHasItsDescriptorsShape : Obligations.PlaceholderHasItsDescriptorsShape :=
  ⟨fun _ _ _ h => ne_prefixCb_of_decode h, quiet_of_noEffect fun _ => rfl⟩

/-- Settles O57: the core enters Halted after the PC advance, and the second byte of STOP is not used. -/
theorem haltAndStopEnterHalted : Obligations.HaltAndStopEnterHalted := by
  unfold Obligations.HaltAndStopEnterHalted
  intro halts
  have halts_of_meaning {i : Instr} {len : Nat} (h : ∀ s, exec i s = enterHalted len s) : halts i len := fun s =>
    ⟨_, h s, rfl, rfl, rfl, rfl, fun _ => rfl, ⟨rfl, rfl⟩, rfl, rfl, rfl, rfl, fun q => by simp, rfl, rfl⟩
  exact ⟨rfl, halts_of_meaning fun _ => rfl, fun n => ⟨rfl, halts_of_meaning fun _ => rfl⟩⟩

/-- Settles O58: each writes the enable bits, and nothing else, after the PC advance. -/
theorem diDisablesAndEiWillEnable : Obligations.DiDisablesAndEiWillEnable := by
  unfold Obligations.DiDisablesAndEiWillEnable
  intro writes
  have writes_of_meaning {i : Instr} {ime : State → Bool} {pending : Bool}
      (h : ∀ s, exec i s = complete 4 ((s.advance 1).setIme (ime s) pending)) : writes i ime pending := fun s =>
    ⟨_, h s, rfl, rfl, rfl, rfl, rfl, fun _ => rfl, ⟨rfl, rfl⟩, rfl, rfl, rfl, fun q => by simp, rfl, rfl⟩
  exact ⟨rfl, writes_of_meaning exec_di, rfl, writes_of_meaning exec_ei⟩

end Sys2Proof.Machine
end
